-- ==== Sys2Proof/Word.lean ====
section
/-! DEFINITION. The word types of the block: bytes, the 32-bit words of the bus and of SHA-256, the 64-bit counters
and the 256-bit values (00_scope.md R7, R8; 30_encoding.md R90). -/

namespace Sys2Proof

/-- One byte of a serialised format (00_scope.md R9). -/
abbrev Byte := BitVec 8

/-- One 32-bit word of the register space (20_memory.md R60, R68). -/
abbrev Word := BitVec 32

/-- The value of a 64-bit counter: HASHCNT, PROG_CNT, CLAIM (10_state.md R27, R29, R30). -/
abbrev U64 := BitVec 64

/-- A `D256` value (30_encoding.md R90, R95): an unsigned 256-bit integer. -/
abbrev U256 := BitVec 256

/-- A 12-bit byte offset in the register space (30_encoding.md R98). -/
abbrev Offset := BitVec 12

end Sys2Proof
end

