-- ==== Sys2Proof/Syntax.lean ====
section
/-! DEFINITION. The operations of the block, one constructor per row of spec/opcode_table.json (00_scope.md R5;
30_encoding.md R99), and the bus access format BUS, which is the one form in which the host issues them (R98). -/

namespace Sys2Proof

/-- Format `BUS` (30_encoding.md R98): what the host puts on its bus. The offset is not bounded here: an access beyond
0xFFF exists on the host's bus and is no access to this block. The size is the width in bytes. -/
inductive Access where
  | read (offset size : Nat)
  | write (offset size : Nat) (data : Word)
deriving DecidableEq, Repr

/-- The operations (30_encoding.md R99). Commands carry no operand (R97); the reserved command words carry the word,
because E_BADCMD records it (60_exceptions.md R260). -/
inductive Instr where
  | nop
  | hash
  | decode
  | compare
  | advance
  | start
  | stop
  | ack
  | srst
  | rd (offset : Offset) (size : Nat)
  | wr (offset : Offset) (size : Nat) (value : Word)
  | attempt
  | seqCancel
  | laneClaim (lane : Nat)
  | laneAttempt (lane : Nat)
  | finish
  | reserved (word : Word)
deriving DecidableEq, Repr

/-- The engine steps: format `ENGINE`, no encoding, issued by nobody (30_encoding.md R90, R99). -/
def Instr.isEngineStep : Instr → Bool
  | .attempt => true
  | .seqCancel => true
  | .laneClaim _ => true
  | .laneAttempt _ => true
  | .finish => true
  | .nop => false
  | .hash => false
  | .decode => false
  | .compare => false
  | .advance => false
  | .start => false
  | .stop => false
  | .ack => false
  | .srst => false
  | .rd _ _ => false
  | .wr _ _ _ => false
  | .reserved _ => false

end Sys2Proof
end

