-- ==== Sys2Proof/WellFormed.lean ====
section
/-! DEFINITION. Which terms of Instr stand for an operation of the table: each command word in exactly one way, and
lane numbers that some instance has (00_scope.md R6). -/

namespace Sys2Proof

/-- A reserved command word (30_encoding.md R101): `ZERO` not 0, or `OPC` in 0x09 to 0xFF. -/
def reservedWord (w : Word) : Bool :=
  w.extractLsb' 8 24 != 0 || decide (0x08 < (w.extractLsb' 0 8).toNat)

/-- An access to register CMD with the legal width, which is a command and not a plain `WR` (45_host_access.md R243).
DESIGN CHOICE, log 12, safe: one form per word. -/
def isCommandWrite (offset : Offset) (size : Nat) : Bool :=
  offset == 0x0C4 && size == 4

/-- Well-formedness of an operation. -/
def Instr.wf : Instr → Bool
  | .wr offset size _ => !isCommandWrite offset size
  | .reserved w => reservedWord w
  | .laneClaim lane => decide (lane < 255)
  | .laneAttempt lane => decide (lane < 255)
  | .nop => true
  | .hash => true
  | .decode => true
  | .compare => true
  | .advance => true
  | .start => true
  | .stop => true
  | .ack => true
  | .srst => true
  | .rd _ _ => true
  | .attempt => true
  | .seqCancel => true
  | .finish => true

end Sys2Proof
end

