-- ==== Sys2Proof/Decode.lean ====
section
/-! DEFINITION. The command decoder (30_encoding.md R97, R106), the bus decoder over it (R98; 45_host_access.md R243), and
the encoder, written from the same tables. Both decoders are total. -/

namespace Sys2Proof

/-- Byte offset of register CMD (10_state.md R39, R56). -/
def cmdOffset : Nat := 0x0C4

/-- Field `OPC` of format `CMDW` (30_encoding.md R97). -/
def opc (w : Word) : BitVec 8 := w.extractLsb' 0 8

/-- Field `ZERO` of format `CMDW` (30_encoding.md R97). -/
def zeroField (w : Word) : BitVec 24 := w.extractLsb' 8 24

/-- The command decoder: 30_encoding.md R106, R101. Every word that is no command is reserved. -/
def decodeCommand (w : Word) : Instr :=
  if zeroField w ≠ 0 then .reserved w
  else
    match (opc w).toNat with
    | 0x00 => .nop
    | 0x01 => .hash
    | 0x02 => .decode
    | 0x03 => .compare
    | 0x04 => .advance
    | 0x05 => .start
    | 0x06 => .stop
    | 0x07 => .ack
    | 0x08 => .srst
    | _ => .reserved w

/-- Why a bus access is no operation of this block. -/
inductive DecodeError where
  /-- The offset exceeds 0xFFF: "outside the block's window and is not an access to this block" (30_encoding.md R98). -/
  | outsideWindow
deriving DecidableEq, Repr

/-- The bus decoder: an access inside the window is `RD`, `WR`, or (a 4-byte write at CMD) the command that its data
selects (30_encoding.md R98, R105; 45_host_access.md R243). Misaligned, narrow and unmapped accesses are operations:
their meaning is an error (R240, R241). -/
def decodeAccess : Access → Except DecodeError Instr
  | .read offset size =>
    if offset < 0x1000 then .ok (.rd (BitVec.ofNat 12 offset) size) else .error .outsideWindow
  | .write offset size data =>
    if offset < 0x1000 then
      if offset = cmdOffset ∧ size = 4 then .ok (decodeCommand data)
      else .ok (.wr (BitVec.ofNat 12 offset) size data)
    else .error .outsideWindow

/-- The bus write by which a command word is issued (spec/opcode_table.json, "how_issued"). -/
def commandAccess (w : Word) : Access := .write cmdOffset 4 w

/-- The word of `nbits` bits that the opcode table gives, with zeros above it. -/
def tableWord (nbits w : Nat) : Word := BitVec.ofNat 32 (w % 2 ^ nbits)

/-- The operation the decoder reads from a word of the opcode table. Only rows of format `CMDW` have bits, a 32-bit word
written to CMD; `none` where a row has no bits or more than a command word has (log 13). -/
def decodeTableWord (nbits w : Nat) : Option Instr :=
  if nbits = 0 ∨ 32 < nbits then none
  else
    match decodeAccess (commandAccess (tableWord nbits w)) with
    | .ok i => some i
    | .error _ => none

/-- The encoder: the bus access by which the host issues an operation (30_encoding.md R99, R105, R106). Engine steps have
no encoding (R90). -/
def encode : Instr → Option Access
  | .nop => some (commandAccess 0x00000000)
  | .hash => some (commandAccess 0x00000001)
  | .decode => some (commandAccess 0x00000002)
  | .compare => some (commandAccess 0x00000003)
  | .advance => some (commandAccess 0x00000004)
  | .start => some (commandAccess 0x00000005)
  | .stop => some (commandAccess 0x00000006)
  | .ack => some (commandAccess 0x00000007)
  | .srst => some (commandAccess 0x00000008)
  | .rd offset size => some (.read offset.toNat size)
  | .wr offset size value => some (.write offset.toNat size value)
  | .reserved w => some (commandAccess w)
  | .attempt => none
  | .seqCancel => none
  | .laneClaim _ => none
  | .laneAttempt _ => none
  | .finish => none

end Sys2Proof
end

