-- ==== Sys2Proof/Config.lean ====
section
/-! DEFINITION. What an instance of the block fixes (NLANES, 00_scope.md R6) and the one free value of the model, the
scheduler's choice (44_multi_worker.md R219). Both are constants without a body: nothing can be proved of their value
beyond its range. -/

namespace Sys2Proof

/-- The number of lanes built into the instance, less one: any value of 0 .. 254. No body: the spec takes NLANES as an
argument (00_scope.md R6; 92_eei_decisions.md D20). DESIGN CHOICE, log 3, safe. -/
opaque Config.lanesLessOne : Fin 255

/-- NLANES (10_state.md R49): 1 to 255, otherwise open (00_scope.md R6). -/
def Config.nlanes : BitVec 8 := BitVec.ofNat 8 (Config.lanesLessOne.val + 1)

/-- The scheduler's choice at its n-th free decision (44_multi_worker.md R219: "Any one of them may be taken next";
93_implementation_defined.md I6, I15). A free value: no body. DESIGN CHOICE, log 2, safe. -/
opaque Config.schedule : Nat → Nat

end Sys2Proof
end

