-- ==== Sys2Proof/Machine/State.lean ====
section
/-! DEFINITION. The state of the block as plain data (10_state.md), the ways a step can stop, the state after reset, and
the names of the register map. -/

namespace Sys2Proof.Machine

/-- A BlockHeader: the six header registers (10_state.md R20). PREV and MERKLE are held as the integers U256(PREV),
U256(MERKLE) of R21; their words are views (log 15). -/
structure Header where
  version : Word
  prev : U256
  merkle : U256
  time : Word
  bits : Word
  nonce : Word
deriving DecidableEq, Repr

/-- The control state STATE (10_state.md R31); value 3 is never produced, so the type has three values
(93_implementation_defined.md section 2). -/
inductive SearchState where
  | idle
  | searching
  | found
deriving DecidableEq, Repr

/-- The compare flags LE, LT, EQ (10_state.md R33). -/
structure CompareFlags where
  le : Bool
  lt : Bool
  eq : Bool
deriving DecidableEq, Repr

/-- The target flags TNEG, TOVF, TCLAMPED, TZERO (10_state.md R34). -/
structure TargetFlags where
  tneg : Bool
  tovf : Bool
  tclamped : Bool
  tzero : Bool
deriving DecidableEq, Repr

/-- The error codes (60_exceptions.md R260); code 0, "no error recorded", is the absence of a record. -/
inductive ErrCode where
  | badCmd
  | state
  | busyWr
  | roWr
  | addr
  | align
  | negTarget
  | config
deriving DecidableEq, Repr

/-- A recorded error: CODE and INFO of register ERR (10_state.md R40; 60_exceptions.md R261). -/
structure ErrRecord where
  code : ErrCode
  info : BitVec 24
deriving DecidableEq, Repr

/-- A lane state LS[i] (10_state.md R50; 44_multi_worker.md R215): Off, Claim, or Work(base, idx). The position in the
range is a count (log 14). -/
inductive LaneState where
  | off
  | claim
  | work (base : U64) (idx : Nat)
deriving DecidableEq, Repr

/-- What the outside world does next (00_scope.md R11): a host bus access, an engine step (which one of the enabled
steps, by number), or the reset input. MODEL's own, log 1. -/
inductive Input where
  | bus (a : Access)
  | engine (choice : Nat)
  | reset
deriving DecidableEq, Repr

/-- The state: every register of 10_state.md R56, every flag of R37, the hidden state of R50, and the MODEL's own fields
`rdata` (log 4), `agenda` (log 1) and `ticks` (log 2). -/
structure State where
  /-- VERSION, PREV, MERKLE, TIME, BITS, NONCE (R20). -/
  header : Header
  /-- LIMIT (R24). -/
  limit : U256
  /-- TARGET (R25). -/
  target : U256
  /-- DIGEST (R26). -/
  digest : U256
  /-- HASHCNT (R27). -/
  hashCnt : U64
  /-- FOUNDCNT (R28). -/
  foundCnt : Word
  /-- PROG_INTERVAL (R43). -/
  progInterval : Word
  /-- CTRL.CLAMP (R38). -/
  clamp : Bool
  /-- CTRL.MULTI (R38). -/
  multi : Bool
  /-- STATE (R31). -/
  phase : SearchState
  /-- CANCEL (R35). -/
  cancel : Bool
  /-- WINNER (R36). -/
  winner : Bool
  /-- LE, LT, EQ (R33). -/
  cmp : CompareFlags
  /-- TNEG, TOVF, TCLAMPED, TZERO (R34). -/
  tflags : TargetFlags
  /-- ERR (R40): `none` is CODE = 0, INFO = 0 (log 6). -/
  err : Option ErrRecord
  /-- IRQ_STATUS bits 3:0 (R41). -/
  irqStatus : BitVec 4
  /-- IRQ_ENABLE bits 3:0 (R42). -/
  irqEnable : BitVec 4
  /-- PROG_CNT (R29). -/
  progCnt : U64
  /-- PROG_DIGEST (R29). -/
  progDigest : U256
  /-- CLAIM (R30). -/
  claim : U64
  /-- RANGE (R46). -/
  range : Word
  /-- NWORK (R48). -/
  nwork : Word
  /-- NLANES (R49), the parameter: no step writes it. -/
  nlanes : BitVec 8
  /-- LS[0 .. NLANES-1] (R50). -/
  lanes : List LaneState
  /-- BASE_NONCE (R50). -/
  baseNonce : Word
  /-- BASE_TIME (R50). -/
  baseTime : Word
  /-- MODEL's own (log 4): the data value returned for the host's latest RD. -/
  rdata : Word
  /-- MODEL's own (log 1): what the outside world does next, oldest first. -/
  agenda : List Input
  /-- MODEL's own (log 2): how many choices the free scheduler has made. -/
  ticks : Nat
deriving DecidableEq, Repr

/-- The reset state of an instance with `nlanes` lanes (70_reset_and_hazards.md R291; 10_state.md R56, R57), with the
MODEL's own fields at their named values (log 1, log 2, log 4: DESIGN CHOICE). -/
def State.resetTo (nlanes : BitVec 8) : State where
  header := { version := 0, prev := 0, merkle := 0, time := 0, bits := 0, nonce := 0 }
  limit := BitVec.allOnes 256
  target := 0
  digest := 0
  hashCnt := 0
  foundCnt := 0
  progInterval := 100000
  clamp := false
  multi := false
  phase := .idle
  cancel := false
  winner := false
  cmp := { le := false, lt := false, eq := false }
  tflags := { tneg := false, tovf := false, tclamped := false, tzero := false }
  err := none
  irqStatus := 0
  irqEnable := 0
  progCnt := 0
  progDigest := 0
  claim := 0
  range := 1000
  nwork := nlanes.setWidth 32
  nlanes := nlanes
  lanes := List.replicate nlanes.toNat .off
  baseNonce := 0
  baseTime := 0
  rdata := 0
  agenda := []
  ticks := 0

/-- The machine right after reset (70_reset_and_hazards.md R291), with the instance's own NLANES. -/
def State.reset : State := State.resetTo Config.nlanes

/-- The machine's faults: none. "There is no behaviour in this spec that is undefined, unpredictable"
(93_implementation_defined.md section 2), and no error stops the block (60_exceptions.md R265, R268). Nobody raises one. -/
inductive Fault where
deriving DecidableEq, Repr

/-- The ways `exec` has no meaning to give. -/
inductive Refusal where
  /-- An instruction whose arm has no meaning yet. Raised by no arm of this model. Safe. -/
  | notModelled (mnemonic : String)
  /-- An engine step named in a state in which the spec says it is not enabled (43_pow_search.md R188;
  44_multi_worker.md R219): there it is no step of the block. Raised by the five engine steps' meanings; never met by
  `step`, which takes enabled steps only. Safe (log 5). -/
  | stepNotEnabled
deriving DecidableEq, Repr

/-- The registers of the register table (10_state.md R56), one name per register word. -/
inductive RegName where
  | version
  | prev (j : Fin 8)
  | merkle (j : Fin 8)
  | time
  | bits
  | nonce
  | limit (j : Fin 8)
  | target (j : Fin 8)
  | digest (j : Fin 8)
  | hashCntLo
  | hashCntHi
  | foundCnt
  | progInterval
  | ctrl
  | cmd
  | status
  | err
  | irqStatus
  | irqEnable
  | progCntLo
  | progCntHi
  | progDigest (j : Fin 8)
  | claimLo
  | claimHi
  | range
  | nwork
  | nlanes
deriving DecidableEq, Repr

/-- The access types (10_state.md R54). -/
inductive AccessType where
  /-- Read-only: a write raises E_ROWR. -/
  | ro
  /-- Write-only: a read returns 0. -/
  | wo
  /-- Read/write in every state. -/
  | rw
  /-- Locked read/write: writable only while STATE = Idle (R55). -/
  | rwl
  /-- Readable, any write clears. -/
  | rwc
  /-- Readable, write one to clear. -/
  | rw1c
deriving DecidableEq, Repr

/-- What the decoder of compact targets yields (41_target_decoder.md R150): value, neg, ovf. -/
structure DecodedTarget where
  value : U256
  neg : Bool
  ovf : Bool
deriving DecidableEq, Repr

/-- An effective target with its flags (41_target_decoder.md R157). -/
structure EffTarget where
  eff : U256
  flags : TargetFlags
deriving DecidableEq, Repr

/-- Eight 32-bit words: a chaining value or the working variables a..h of SHA-256 (40_header_codec.md R124, R128). -/
structure HashState where
  a : Word
  b : Word
  c : Word
  d : Word
  e : Word
  f : Word
  g : Word
  h : Word
deriving DecidableEq, Repr

/-- What the machine takes up next: an operation to run, the reset input, or nothing to do, each with the state in which
its input has been taken from the agenda (log 1, log 17). -/
inductive Fetched where
  | run (i : Instr) (s : State)
  | resetInput (s : State)
  | nothing (s : State)
deriving DecidableEq, Repr

end Sys2Proof.Machine
end

