-- ==== Sys2Proof/Machine/Bytes.lean ====
section
/-! DEFINITION. Byte order and word views (00_scope.md R8, R9, R16; 10_state.md R21; 30_encoding.md R95). -/

namespace Sys2Proof.Machine

/-- `le32` (00_scope.md R9): the 4 bytes of a word, least significant first. -/
def le32 (v : Word) : List Byte :=
  [v.extractLsb' 0 8, v.extractLsb' 8 8, v.extractLsb' 16 8, v.extractLsb' 24 8]

/-- `be32` (R9): the 4 bytes of a word, most significant first. -/
def be32 (v : Word) : List Byte :=
  [v.extractLsb' 24 8, v.extractLsb' 16 8, v.extractLsb' 8 8, v.extractLsb' 0 8]

/-- `le256` (R9): the 32 bytes of a 256-bit value, byte `i` = bits 8i+7 : 8i. -/
def le256 (v : U256) : List Byte := (List.range 32).map fun i => v.extractLsb' (8 * i) 8

/-- `be64` (R9): the 8 bytes of a 64-bit value, most significant first. -/
def be64 (v : U64) : List Byte := (List.range 8).map fun i => v.extractLsb' (8 * (7 - i)) 8

/-- `int_le` (R9): the sum of b[i] * 256^i. -/
def intLe : List Byte → Nat
  | [] => 0
  | b :: bs => b.toNat + 256 * intLe bs

/-- `int_be` (R9): the sum of b[i] * 256^(len-1-i). -/
def intBe (bs : List Byte) : Nat := bs.foldl (fun n b => 256 * n + b.toNat) 0

/-- `bswap32` (R9): reverses the four bytes of a word. -/
def bswap32 (v : Word) : Word := BitVec.ofNat 32 (intLe (be32 v))

/-- Word `j` of a 256-bit value: bits 32j+31 : 32j (10_state.md R21). -/
def wordOf (v : U256) (j : Nat) : Word := v.extractLsb' (32 * j) 32

/-- A 256-bit value with word `j` replaced (45_host_access.md R242: "changes that word only"). -/
def setWordOf (v : U256) (j : Nat) (w : Word) : U256 :=
  (v &&& ~~~((BitVec.allOnes 32).setWidth 256 <<< (32 * j))) ||| (w.setWidth 256 <<< (32 * j))

/-- Bits 31:0 of a 64-bit counter (10_state.md R27). -/
def lo32 (v : U64) : Word := v.extractLsb' 0 32

/-- Bits 63:32 of a 64-bit counter (10_state.md R27). -/
def hi32 (v : U64) : Word := v.extractLsb' 32 32

/-- The byte pairs of `hex256(v)` (00_scope.md R16), first pair first: most significant byte first. -/
def hexPairs (v : U256) : List Byte := (le256 v).reverse

/-- The `n` elements from position `k` on. -/
def slice (l : List Byte) (k n : Nat) : List Byte := (l.drop k).take n

end Sys2Proof.Machine
end

