-- ==== Sys2Proof/Machine/Ops.lean ====
section
/-! DEFINITION. The shared operations on the state: recording an error and clearing it (60_exceptions.md R262, R266), events
(R269, R270), reset (70_reset_and_hazards.md R290), counting an attempt, the winner's latch, the progress snapshot
(43_pow_search.md R192) and the lane states. -/

namespace Sys2Proof.Machine

/-- Event bit FOUND of IRQ_STATUS (10_state.md R41). -/
def evFound : BitVec 4 := 0b0001

/-- Event bit PROGRESS (R41). -/
def evProgress : BitVec 4 := 0b0010

/-- Event bit ERROR (R41). -/
def evError : BitVec 4 := 0b0100

/-- Event bit STOPPED (R41). -/
def evStopped : BitVec 4 := 0b1000

/-- The number in ERR.CODE (60_exceptions.md R260). -/
def ErrCode.toBits : ErrCode → BitVec 4
  | .badCmd => 1
  | .state => 2
  | .busyWr => 3
  | .roWr => 4
  | .addr => 5
  | .align => 6
  | .negTarget => 7
  | .config => 8

/-- An event becomes pending (60_exceptions.md R270): its bit is set, the others stay. -/
def State.setEvent (s : State) (ev : BitVec 4) : State := { s with irqStatus := s.irqStatus ||| ev }

/-- Write-one-to-clear of IRQ_STATUS (10_state.md R41; 60_exceptions.md R266). -/
def State.clearEvents (s : State) (ones : BitVec 4) : State := { s with irqStatus := s.irqStatus &&& ~~~ones }

/-- ERR after an error (60_exceptions.md R262): the record it holds, or the new one if it holds none. -/
def keepFirst (held : Option ErrRecord) (new : ErrRecord) : Option ErrRecord :=
  match held with
  | none => some new
  | some r => some r

/-- `raise E_X(info)`, the error entry (60_exceptions.md R262): the first error since ERR was cleared is kept, the ERROR
event becomes pending, nothing else changes. -/
def State.raise (s : State) (code : ErrCode) (info : BitVec 24) : State :=
  { s with
    err := keepFirst s.err { code := code, info := info }
    irqStatus := s.irqStatus ||| evError }

/-- INFO of a bus error (60_exceptions.md R261): the 12-bit offset, zero-extended. -/
def offsetInfo (offset : Offset) : BitVec 24 := offset.setWidth 24

/-- INFO of a command error (R261): the low 24 bits of the word written to CMD. -/
def commandInfo (w : Word) : BitVec 24 := w.extractLsb' 0 24

/-- The write to ERR (10_state.md R40; 60_exceptions.md R266): CODE and INFO become 0. -/
def State.clearErr (s : State) : State := { s with err := none }

/-- The reset input and `SRST` (70_reset_and_hazards.md R290, R291; 45_host_access.md R245): every register and every hidden
element at its reset value. The parameter NLANES stays, and so do the MODEL's own fields, which are the outside world's
(log 1, log 2, log 4). -/
def State.hardReset (s : State) : State :=
  { State.resetTo s.nlanes with rdata := s.rdata, agenda := s.agenda, ticks := s.ticks }

/-- `cnt <- (HASHCNT + 1) mod 2^64` of an attempt (10_state.md R27; 43_pow_search.md R189). -/
def State.nextCount (s : State) : U64 := s.hashCnt + 1

/-- A winner is counted and reported (10_state.md R28, R36, R41): WINNER, FOUNDCNT, IRQ_STATUS.FOUND. -/
def State.latchWinner (s : State) : State :=
  { s with winner := true, foundCnt := s.foundCnt + 1, irqStatus := s.irqStatus ||| evFound }

/-- The test for a progress event (43_pow_search.md R189; 44_multi_worker.md R220; 42_uint256_compare.md R175). R192's prose
says a "non-zero multiple" of PROG_INTERVAL, the pseudocode of R189 and R220 tests the remainder only: they differ where the
count wraps to 0, and there the model follows the pseudocode (an event with PROG_CNT = 0). DESIGN CHOICE, log 21, unsafe. -/
def progressDue (interval : Word) (cnt : U64) : Bool :=
  interval != 0 && cnt.toNat % interval.toNat == 0

/-- The progress event of a failing attempt with count `cnt` and digest `d`, if it is due (43_pow_search.md R192). -/
def State.noteProgress (s : State) (cnt : U64) (d : U256) : State :=
  if progressDue s.progInterval cnt then
    { s with progCnt := cnt, progDigest := d, irqStatus := s.irqStatus ||| evProgress }
  else s

/-- LS[i] (10_state.md R50); a number that is no lane's reads as Off (log 14). -/
def State.lane (s : State) (i : Nat) : LaneState := s.lanes.getD i .off

/-- `LS[i] <- l`. -/
def State.setLane (s : State) (i : Nat) (l : LaneState) : State := { s with lanes := s.lanes.set i l }

/-- Every `LS[i] = Off`. -/
def State.allLanesOff (s : State) : Bool := s.lanes.all (· == .off)

end Sys2Proof.Machine
end

