-- ==== Sys2Proof/Machine/Flags.lean ====
section
/-! DEFINITION. The flags and the words assembled from fields: STATUS (10_state.md R37), CTRL (R38), ERR (R40), the compare
flags (R33; 42_uint256_compare.md R176), and the irq output (R44). -/

namespace Sys2Proof.Machine

/-- One bit of an assembled word. -/
def bitAt (b : Bool) (i : Nat) : Word := (if b then (1 : Word) else 0) <<< i

/-- STATUS[1:0] (10_state.md R31). -/
def SearchState.toBits : SearchState → BitVec 2
  | .idle => 0
  | .searching => 1
  | .found => 2

/-- STATUS (10_state.md R37); bit 7 and bits 31:12 read 0. -/
def State.statusWord (s : State) : Word :=
  s.phase.toBits.setWidth 32 ||| bitAt s.cancel 2 ||| bitAt s.winner 3
    ||| bitAt s.cmp.le 4 ||| bitAt s.cmp.lt 5 ||| bitAt s.cmp.eq 6
    ||| bitAt s.tflags.tneg 8 ||| bitAt s.tflags.tovf 9 ||| bitAt s.tflags.tclamped 10 ||| bitAt s.tflags.tzero 11

/-- CTRL (10_state.md R38); bits 31:2 read 0. -/
def State.ctrlWord (s : State) : Word := bitAt s.clamp 0 ||| bitAt s.multi 1

/-- ERR (10_state.md R40): CODE in bits 3:0, INFO in bits 31:8, the rest 0; 0 when no error is recorded. -/
def State.errWord (s : State) : Word :=
  match s.err with
  | none => 0
  | some r => r.code.toBits.setWidth 32 ||| (r.info.setWidth 32 <<< 8)

/-- The `irq` output (10_state.md R44; 60_exceptions.md R270). -/
def State.irq (s : State) : Bool := (s.irqStatus &&& s.irqEnable) != 0

/-- The compare flags of an ordering (42_uint256_compare.md R176). -/
def compareFlags (c : Ordering) : CompareFlags :=
  { lt := c == .lt, eq := c == .eq, le := c == .lt || c == .eq }

/-- The target flags (41_target_decoder.md R157, R158; 10_state.md R34). -/
def targetFlags (neg ovf clamped : Bool) (eff : U256) : TargetFlags :=
  { tneg := neg, tovf := ovf, tclamped := clamped, tzero := eff == 0 }

end Sys2Proof.Machine
end

