-- ==== Sys2Proof/Machine/Compare.lean ====
section
/-! DEFINITION. The 256-bit comparison, most significant word first, and the command COMPARE (42_uint256_compare.md). -/

namespace Sys2Proof.Machine

/-- `Compare` on the words `j-1` down to 0 (42_uint256_compare.md R171). -/
def compareBelow (a b : U256) : Nat → Ordering
  | 0 => .eq
  | j + 1 =>
    if wordOf a j < wordOf b j then .lt
    else if wordOf b j < wordOf a j then .gt
    else compareBelow a b j

/-- `Compare(a, b)` (R171): words 7 down to 0, each compared unsigned. -/
def compare256 (a b : U256) : Ordering := compareBelow a b 8

/-- COMPARE: 42_uint256_compare.md R176. -/
def execCompare (s : State) : Host.Outcome State Fault Refusal :=
  if s.phase = .idle then .next { s with cmp := compareFlags (compare256 s.digest s.target) }
  else .next (s.raise .state 0x03)

end Sys2Proof.Machine
end

