-- ==== Sys2Proof/Machine/Operands.lean ====
section
/-! DEFINITION. The register map (10_state.md R56): which register word an offset names, its access type, its value as the
host reads it, and what storing a word there does (45_host_access.md R240, R242); the byte image of the window
(20_memory.md R66). -/

namespace Sys2Proof.Machine

/-- The eight rows of a 256-bit register at `base + 4j` (10_state.md R20, R21). -/
def wordRows (base : Nat) (reg : Fin 8 → RegName) : List (Nat × RegName) :=
  [(base, reg 0), (base + 4, reg 1), (base + 8, reg 2), (base + 12, reg 3),
    (base + 16, reg 4), (base + 20, reg 5), (base + 24, reg 6), (base + 28, reg 7)]

/-- The complete register table (10_state.md R56): offset and name. -/
def registerTable : List (Nat × RegName) :=
  [(0x000, .version)] ++ wordRows 0x004 .prev ++ wordRows 0x024 .merkle
    ++ [(0x044, .time), (0x048, .bits), (0x04C, .nonce)]
    ++ wordRows 0x050 .limit ++ wordRows 0x070 .target ++ wordRows 0x090 .digest
    ++ [(0x0B0, .hashCntLo), (0x0B4, .hashCntHi), (0x0B8, .foundCnt), (0x0BC, .progInterval), (0x0C0, .ctrl),
      (0x0C4, .cmd), (0x0C8, .status), (0x0CC, .err), (0x0D0, .irqStatus), (0x0D4, .irqEnable),
      (0x0D8, .progCntLo), (0x0DC, .progCntHi)]
    ++ wordRows 0x0E0 .progDigest
    ++ [(0x100, .claimLo), (0x104, .claimHi), (0x108, .range), (0x10C, .nwork), (0x110, .nlanes)]

/-- The register word at a byte offset, if there is one (10_state.md R47, R56). -/
def regAt (offset : Nat) : Option RegName := (registerTable.find? fun row => row.1 == offset).map Prod.snd

/-- The byte offset of a register word (10_state.md R20 to R49, the prose of each register). -/
def RegName.offset : RegName → Nat
  | .version => 0x000
  | .prev j => 0x004 + 4 * j
  | .merkle j => 0x024 + 4 * j
  | .time => 0x044
  | .bits => 0x048
  | .nonce => 0x04C
  | .limit j => 0x050 + 4 * j
  | .target j => 0x070 + 4 * j
  | .digest j => 0x090 + 4 * j
  | .hashCntLo => 0x0B0
  | .hashCntHi => 0x0B4
  | .foundCnt => 0x0B8
  | .progInterval => 0x0BC
  | .ctrl => 0x0C0
  | .cmd => 0x0C4
  | .status => 0x0C8
  | .err => 0x0CC
  | .irqStatus => 0x0D0
  | .irqEnable => 0x0D4
  | .progCntLo => 0x0D8
  | .progCntHi => 0x0DC
  | .progDigest j => 0x0E0 + 4 * j
  | .claimLo => 0x100
  | .claimHi => 0x104
  | .range => 0x108
  | .nwork => 0x10C
  | .nlanes => 0x110

/-- The access type of a register (10_state.md R56). -/
def RegName.access : RegName → AccessType
  | .version => .rwl
  | .prev _ => .rwl
  | .merkle _ => .rwl
  | .time => .rwl
  | .bits => .rwl
  | .nonce => .rwl
  | .limit _ => .rwl
  | .target _ => .rwl
  | .digest _ => .rwl
  | .hashCntLo => .ro
  | .hashCntHi => .ro
  | .foundCnt => .ro
  | .progInterval => .rwl
  | .ctrl => .rwl
  | .cmd => .wo
  | .status => .ro
  | .err => .rwc
  | .irqStatus => .rw1c
  | .irqEnable => .rw
  | .progCntLo => .ro
  | .progCntHi => .ro
  | .progDigest _ => .ro
  | .claimLo => .ro
  | .claimHi => .ro
  | .range => .rwl
  | .nwork => .rwl
  | .nlanes => .ro

/-- The current value of a register word as the host reads it (45_host_access.md R240); CMD reads 0. -/
def readReg (s : State) : RegName → Word
  | .version => s.header.version
  | .prev j => wordOf s.header.prev j
  | .merkle j => wordOf s.header.merkle j
  | .time => s.header.time
  | .bits => s.header.bits
  | .nonce => s.header.nonce
  | .limit j => wordOf s.limit j
  | .target j => wordOf s.target j
  | .digest j => wordOf s.digest j
  | .hashCntLo => lo32 s.hashCnt
  | .hashCntHi => hi32 s.hashCnt
  | .foundCnt => s.foundCnt
  | .progInterval => s.progInterval
  | .ctrl => s.ctrlWord
  | .cmd => 0
  | .status => s.statusWord
  | .err => s.errWord
  | .irqStatus => s.irqStatus.setWidth 32
  | .irqEnable => s.irqEnable.setWidth 32
  | .progCntLo => lo32 s.progCnt
  | .progCntHi => hi32 s.progCnt
  | .progDigest j => wordOf s.progDigest j
  | .claimLo => lo32 s.claim
  | .claimHi => hi32 s.claim
  | .range => s.range
  | .nwork => s.nwork
  | .nlanes => s.nlanes.setWidth 32

/-- The write effect of an accepted `WR` on a register other than CMD (45_host_access.md R242). The host's store never
reaches a read-only register (R241), and CMD stores nothing (10_state.md R39). -/
def writeReg (s : State) (v : Word) : RegName → State
  | .version => { s with header := { s.header with version := v } }
  | .prev j => { s with header := { s.header with prev := setWordOf s.header.prev j v } }
  | .merkle j => { s with header := { s.header with merkle := setWordOf s.header.merkle j v } }
  | .time => { s with header := { s.header with time := v } }
  | .bits => { s with header := { s.header with bits := v } }
  | .nonce => { s with header := { s.header with nonce := v } }
  | .limit j => { s with limit := setWordOf s.limit j v }
  | .target j => { s with target := setWordOf s.target j v }
  | .digest j => { s with digest := setWordOf s.digest j v }
  | .progInterval => { s with progInterval := v }
  | .ctrl => { s with clamp := v.getLsbD 0, multi := v.getLsbD 1 }
  | .err => s.clearErr
  | .irqStatus => s.clearEvents (v.extractLsb' 0 4)
  | .irqEnable => { s with irqEnable := v.extractLsb' 0 4 }
  | .range => { s with range := v }
  | .nwork => { s with nwork := v }
  | .hashCntLo => s
  | .hashCntHi => s
  | .foundCnt => s
  | .cmd => s
  | .status => s
  | .progCntLo => s
  | .progCntHi => s
  | .progDigest _ => s
  | .claimLo => s
  | .claimHi => s
  | .nlanes => s

/-- The byte at offset `o` of the register window (20_memory.md R66): byte `o mod 4`, least significant first, of the
word at `4 * floor(o / 4)`; `none` where nothing is mapped. -/
def State.windowByte (s : State) (o : Nat) : Option Byte :=
  (regAt (4 * (o / 4))).map fun r => (readReg s r).extractLsb' (8 * (o % 4)) 8

end Sys2Proof.Machine
end

