-- ==== Sys2Proof/Machine/Sha256.lean ====
section
/-! DEFINITION. SHA-256 (40_header_codec.md R122 to R130) with the word operations of 00_scope.md R10. `+` on words is
`+32`, addition modulo 2^32. -/

namespace Sys2Proof.Machine

/-- `ROTR(x, n)` (00_scope.md R10), for 0 < n < 32. -/
def rotr (x : Word) (n : Nat) : Word := (x >>> n) ||| (x <<< (32 - n))

/-- `SHR(x, n)` (R10). -/
def shr (x : Word) (n : Nat) : Word := x >>> n

/-- `Ch` (40_header_codec.md R126). -/
def ch (x y z : Word) : Word := (x &&& y) ^^^ (~~~x &&& z)

/-- `Maj` (R126). -/
def maj (x y z : Word) : Word := (x &&& y) ^^^ (x &&& z) ^^^ (y &&& z)

/-- `BSIG0` (R126). -/
def bsig0 (x : Word) : Word := rotr x 2 ^^^ rotr x 13 ^^^ rotr x 22

/-- `BSIG1` (R126). -/
def bsig1 (x : Word) : Word := rotr x 6 ^^^ rotr x 11 ^^^ rotr x 25

/-- `SSIG0` (R126). -/
def ssig0 (x : Word) : Word := rotr x 7 ^^^ rotr x 18 ^^^ shr x 3

/-- `SSIG1` (R126). -/
def ssig1 (x : Word) : Word := rotr x 17 ^^^ rotr x 19 ^^^ shr x 10

/-- The round constants `K[0..63]`, eight per row (R123). -/
def roundConstants : List Word :=
  [0x428a2f98, 0x71374491, 0xb5c0fbcf, 0xe9b5dba5, 0x3956c25b, 0x59f111f1, 0x923f82a4, 0xab1c5ed5]
    ++ [0xd807aa98, 0x12835b01, 0x243185be, 0x550c7dc3, 0x72be5d74, 0x80deb1fe, 0x9bdc06a7, 0xc19bf174]
    ++ [0xe49b69c1, 0xefbe4786, 0x0fc19dc6, 0x240ca1cc, 0x2de92c6f, 0x4a7484aa, 0x5cb0a9dc, 0x76f988da]
    ++ [0x983e5152, 0xa831c66d, 0xb00327c8, 0xbf597fc7, 0xc6e00bf3, 0xd5a79147, 0x06ca6351, 0x14292967]
    ++ [0x27b70a85, 0x2e1b2138, 0x4d2c6dfc, 0x53380d13, 0x650a7354, 0x766a0abb, 0x81c2c92e, 0x92722c85]
    ++ [0xa2bfe8a1, 0xa81a664b, 0xc24b8b70, 0xc76c51a3, 0xd192e819, 0xd6990624, 0xf40e3585, 0x106aa070]
    ++ [0x19a4c116, 0x1e376c08, 0x2748774c, 0x34b0bcb5, 0x391c0cb3, 0x4ed8aa4a, 0x5b9cca4f, 0x682e6ff3]
    ++ [0x748f82ee, 0x78a5636f, 0x84c87814, 0x8cc70208, 0x90befffa, 0xa4506ceb, 0xbef9a3f7, 0xc67178f2]

/-- The initial chaining value `IV[0..7]` (R124). -/
def initialHash : HashState where
  a := 0x6a09e667
  b := 0xbb67ae85
  c := 0x3c6ef372
  d := 0xa54ff53a
  e := 0x510e527f
  f := 0x9b05688c
  g := 0x1f83d9ab
  h := 0x5be0cd19

/-- How many zero bytes the padding holds (R125): `(55 - L) mod 64`. -/
def padZeros (len : Nat) : Nat := ((55 - (len : Int)) % 64).toNat

/-- `Pad(m) = m || 0x80 || z || be64(8L)` (R125). -/
def pad (m : List Byte) : List Byte :=
  m ++ [0x80] ++ List.replicate (padZeros m.length) 0 ++ be64 (BitVec.ofNat 64 (8 * m.length))

/-- Block `i` of a padded message: `B_i[t] = int_be(bytes 64i+4t .. 64i+4t+3)` (R125). -/
def parseBlock (padded : List Byte) (i : Nat) : List Word :=
  (List.range 16).map fun t => BitVec.ofNat 32 (intBe (slice padded (64 * i + 4 * t) 4))

/-- The blocks of a message (R125). -/
def messageBlocks (m : List Byte) : List (List Word) :=
  (List.range ((pad m).length / 64)).map (parseBlock (pad m))

/-- One more word of the message schedule, `W[t]` for `t` = the number of words so far (R127). -/
def extendSchedule (w : List Word) : List Word :=
  w ++ [ssig1 (w.getD (w.length - 2) 0) + w.getD (w.length - 7) 0
    + ssig0 (w.getD (w.length - 15) 0) + w.getD (w.length - 16) 0]

/-- The message schedule `W[0..63]` of a block (R127). -/
def schedule (block : List Word) : List Word := Nat.repeat extendSchedule 48 block

/-- One round of the compression function with `K[t]` and `W[t]` (R128). -/
def shaRound (s : HashState) (kw : Word × Word) : HashState :=
  let t1 := s.h + bsig1 s.e + ch s.e s.f s.g + kw.1 + kw.2
  let t2 := bsig0 s.a + maj s.a s.b s.c
  { h := s.g, g := s.f, f := s.e, e := s.d + t1, d := s.c, c := s.b, b := s.a, a := t1 + t2 }

/-- The compression function (R128). -/
def shaCompress (hin : HashState) (block : List Word) : HashState :=
  let r := (roundConstants.zip (schedule block)).foldl shaRound hin
  { a := hin.a + r.a, b := hin.b + r.b, c := hin.c + r.c, d := hin.d + r.d,
    e := hin.e + r.e, f := hin.f + r.f, g := hin.g + r.g, h := hin.h + r.h }

/-- The eight words of a chaining value in order. -/
def HashState.words (s : HashState) : List Word := [s.a, s.b, s.c, s.d, s.e, s.f, s.g, s.h]

/-- The final chaining value of a message (R129). -/
def shaFinal (m : List Byte) : HashState := (messageBlocks m).foldl shaCompress initialHash

/-- `SHA256(m)` (R122, R130): the final chaining words, each most significant byte first. -/
def sha256 (m : List Byte) : List Byte := (shaFinal m).words.flatMap be32

end Sys2Proof.Machine
end

