-- ==== Sys2Proof/Machine/HeaderCodec.lean ====
section
/-! DEFINITION. The header codec: Serialize, Deserialize, the double hash and the digest value, and the command HASH
(40_header_codec.md). -/

namespace Sys2Proof.Machine

/-- `Serialize(h)` (40_header_codec.md R120; positions in 30_encoding.md R91). -/
def serialize (h : Header) : List Byte :=
  le32 h.version ++ le256 h.prev ++ le256 h.merkle ++ le32 h.time ++ le32 h.bits ++ le32 h.nonce

/-- `Deserialize(b)` (R121; 30_encoding.md R92). A sequence that is not 80 bytes long is no header. -/
def deserialize (b : List Byte) : Option Header :=
  if b.length = 80 then
    some
      { version := BitVec.ofNat 32 (intLe (slice b 0 4))
        prev := BitVec.ofNat 256 (intLe (slice b 4 32))
        merkle := BitVec.ofNat 256 (intLe (slice b 36 32))
        time := BitVec.ofNat 32 (intLe (slice b 68 4))
        bits := BitVec.ofNat 32 (intLe (slice b 72 4))
        nonce := BitVec.ofNat 32 (intLe (slice b 76 4)) }
  else none

/-- The 20 header words `w[0..19]` (30_encoding.md R91; 40_header_codec.md R131). -/
def headerWords (h : Header) : List Word :=
  [h.version] ++ (List.range 8).map (wordOf h.prev) ++ (List.range 8).map (wordOf h.merkle)
    ++ [h.time, h.bits, h.nonce]

/-- `Hash256(m)` (R132): the double hash, read as a little-endian integer. -/
def hash256 (m : List Byte) : U256 := BitVec.ofNat 256 (intLe (sha256 (sha256 m)))

/-- `HeaderDigest(h)` (R136). Irreducible only so that no proof unfolds the hash by accident. -/
@[irreducible] def headerDigest (h : Header) : U256 := hash256 (serialize h)

/-- HASH: 40_header_codec.md R134. -/
def execHash (s : State) : Host.Outcome State Fault Refusal :=
  if s.phase = .idle then .next { s with digest := headerDigest s.header }
  else .next (s.raise .state 0x01)

end Sys2Proof.Machine
end

