-- ==== Sys2Proof/Machine/TargetDecoder.lean ====
section
/-! DEFINITION. The target decoder: DecodeCompact, ClampToLimit, EffectiveTarget, LatchTarget, and the command DECODE
(41_target_decoder.md). -/

namespace Sys2Proof.Machine

/-- Field `E` of `CT32` (30_encoding.md R93, R94). -/
def ctExponent (bits : Word) : Nat := (bits.extractLsb' 24 8).toNat

/-- Field `S` of `CT32` (R93). -/
def ctSign (bits : Word) : Bool := bits.getLsbD 23

/-- Field `M` of `CT32`, as an unbounded non-negative integer (R94). -/
def ctMagnitude (bits : Word) : Nat := (bits.extractLsb' 0 23).toNat

/-- `full` of `DecodeCompact` (41_target_decoder.md R150), over the natural numbers. -/
def ctFull (bits : Word) : Nat :=
  if ctExponent bits ≤ 3 then ctMagnitude bits / 2 ^ (8 * (3 - ctExponent bits))
  else ctMagnitude bits * 2 ^ (8 * (ctExponent bits - 3))

/-- `DecodeCompact(bits)` (R150). -/
def decodeCompact (bits : Word) : DecodedTarget where
  value := BitVec.ofNat 256 (ctFull bits)
  neg := ctSign bits
  ovf := decide (2 ^ 256 ≤ ctFull bits)

/-- `ClampToLimit(target, limit)` (R156). -/
def clampToLimit (target limit : U256) : U256 := if target ≤ limit then target else limit

/-- `EffectiveTarget(bits, limit, clamp)` (R157). -/
def effectiveTarget (bits : Word) (limit : U256) (clamp : Bool) : EffTarget :=
  let d := decodeCompact bits
  let eff := if clamp then clampToLimit d.value limit else d.value
  { eff := eff, flags := targetFlags d.neg d.ovf (clamp && decide (limit < d.value)) eff }

/-- The effective target of the registers BITS, LIMIT and CTRL.CLAMP (R158). -/
def State.effTarget (s : State) : EffTarget := effectiveTarget s.header.bits s.limit s.clamp

/-- Procedure `LatchTarget` (R158): TARGET and the four target flags. -/
def State.latchTarget (s : State) : State :=
  { s with target := s.effTarget.eff, tflags := s.effTarget.flags }

/-- DECODE: 41_target_decoder.md R159. -/
def execDecode (s : State) : Host.Outcome State Fault Refusal :=
  if s.phase = .idle then .next s.latchTarget
  else .next (s.raise .state 0x02)

end Sys2Proof.Machine
end

