-- ==== Sys2Proof/Machine/Search.lean ====
section
/-! DEFINITION. The proof-of-work search in sequential mode: Advance, the commands ADVANCE, START, STOP, ACK, and the engine
steps ATTEMPT and SEQ_CANCEL (43_pow_search.md). -/

namespace Sys2Proof.Machine

/-- `Advance(nonce, time)` (43_pow_search.md R185; 42_uint256_compare.md R175). -/
def advance (c : Word × Word) : Word × Word :=
  let nonce := c.1 + 1
  (nonce, if nonce = 0 then c.2 + 1 else c.2)

/-- `(NONCE, TIME) <- c`. -/
def Header.withCandidate (h : Header) (c : Word × Word) : Header := { h with nonce := c.1, time := c.2 }

/-- The header after one `Advance` of its NONCE and TIME (R185): "with no other field changed". -/
def Header.advanced (h : Header) : Header := h.withCandidate (advance (h.nonce, h.time))

/-- ADVANCE: 43_pow_search.md R186. -/
def execAdvance (s : State) : Host.Outcome State Fault Refusal :=
  if s.phase = .idle then .next { s with header := s.header.advanced }
  else .next (s.raise .state 0x04)

/-- The configuration check of a multi mode START (43_pow_search.md R187; 60_exceptions.md R260, E_CONFIG). -/
def State.badConfig (s : State) : Bool :=
  s.multi && (s.nwork == 0 || decide (s.nlanes.toNat < s.nwork.toNat) || s.range == 0)

/-- Why a START is rejected, in the priority of R187: E_STATE, E_CONFIG, E_NEGTARGET. -/
def State.startError (s : State) : Option ErrCode :=
  if s.phase ≠ .idle then some .state
  else if s.badConfig then some .config
  else if ctSign s.header.bits then some .negTarget
  else none

/-- The lane states of a multi mode START (43_pow_search.md R187): lanes 0 .. NWORK-1 enter Claim. -/
def startLanes (nlanes nwork : Nat) : List LaneState :=
  (List.range nlanes).map fun i => if i < nwork then .claim else .off

/-- The effect of an accepted START in sequential mode (R187). -/
def State.startSearch (s : State) : State :=
  { s.latchTarget with hashCnt := 0, claim := 0, cancel := false, winner := false, phase := .searching }

/-- What an accepted multi mode START does besides (R187): the template's nonce and time, and the lanes. -/
def State.startWorkers (s : State) : State :=
  { s with
    baseNonce := s.header.nonce
    baseTime := s.header.time
    lanes := startLanes s.nlanes.toNat s.nwork.toNat }

/-- START: 43_pow_search.md R187. -/
def execStart (s : State) : Host.Outcome State Fault Refusal :=
  match s.startError with
  | some code => .next (s.raise code 0x05)
  | none => .next (if s.multi then s.startSearch.startWorkers else s.startSearch)

/-- STOP: 43_pow_search.md R193. -/
def execStop (s : State) : Host.Outcome State Fault Refusal :=
  .next (if s.phase = .searching then { s with cancel := true } else s)

/-- ACK: 43_pow_search.md R194. -/
def execAck (s : State) : Host.Outcome State Fault Refusal :=
  match s.phase with
  | .searching => .next (s.raise .state 0x07)
  | .found => .next { s with phase := .idle, winner := false }
  | .idle => .next s

/-- When ATTEMPT is enabled (43_pow_search.md R188, R189). -/
def State.attemptEnabled (s : State) : Bool := s.phase == .searching && !s.multi && !s.cancel

/-- When SEQ_CANCEL is enabled (R188, R191). -/
def State.seqCancelEnabled (s : State) : Bool := s.phase == .searching && !s.multi && s.cancel

/-- A succeeding sequential attempt (R189): the candidate is not advanced. -/
def State.attemptWins (s : State) (d : U256) : State :=
  { s.latchWinner with digest := d, hashCnt := s.nextCount, phase := .found }

/-- A failing sequential attempt (R189, R192). -/
def State.attemptFails (s : State) (d : U256) : State :=
  { s.noteProgress s.nextCount d with digest := d, hashCnt := s.nextCount, header := s.header.advanced }

/-- ATTEMPT: 43_pow_search.md R189. -/
def execAttempt (s : State) : Host.Outcome State Fault Refusal :=
  if s.attemptEnabled then
    .next
      (if headerDigest s.header ≤ s.target then s.attemptWins (headerDigest s.header)
      else s.attemptFails (headerDigest s.header))
  else .refused .stepNotEnabled

/-- SEQ_CANCEL: 43_pow_search.md R191. -/
def execSeqCancel (s : State) : Host.Outcome State Fault Refusal :=
  if s.seqCancelEnabled then
    .next { s with phase := .idle, cancel := false, irqStatus := s.irqStatus ||| evStopped }
  else .refused .stepNotEnabled

end Sys2Proof.Machine
end

