-- ==== Sys2Proof/Machine/HostAccess.lean ====
section
/-! DEFINITION. Host access and the system commands: RD, WR with its command dispatch, NOP, SRST, and the reserved command
words (45_host_access.md; 30_encoding.md R101). -/

namespace Sys2Proof.Machine

/-- NOP: 45_host_access.md R244. -/
def execNop (s : State) : Host.Outcome State Fault Refusal := .next s

/-- SRST: 45_host_access.md R245. -/
def execSrst (s : State) : Host.Outcome State Fault Refusal := .next s.hardReset

/-- A reserved command word: E_BADCMD, "executes nothing" (30_encoding.md R101; 60_exceptions.md R260, R261). -/
def execReserved (w : Word) (s : State) : Host.Outcome State Fault Refusal :=
  .next (s.raise .badCmd (commandInfo w))

/-- Command dispatch of an accepted write to CMD (45_host_access.md R243). -/
def dispatchCommand (w : Word) (s : State) : Host.Outcome State Fault Refusal :=
  if zeroField w ≠ 0 then execReserved w s
  else
    match (opc w).toNat with
    | 0x00 => execNop s
    | 0x01 => execHash s
    | 0x02 => execDecode s
    | 0x03 => execCompare s
    | 0x04 => execAdvance s
    | 0x05 => execStart s
    | 0x06 => execStop s
    | 0x07 => execAck s
    | 0x08 => execSrst s
    | _ => execReserved w s

/-- An access that is not one aligned 32-bit word (20_memory.md R68; 45_host_access.md R240, R241). -/
def misaligned (offset : Offset) (size : Nat) : Bool := size != 4 || offset.toNat % 4 != 0

/-- Why a bus access is rejected, in the priority of R240, R241 (60_exceptions.md R264): E_ALIGN, E_ADDR, and for a write
E_ROWR, E_BUSYWR. -/
def accessError (s : State) (isWrite : Bool) (offset : Offset) (size : Nat) : Option ErrCode :=
  if misaligned offset size then some .align
  else
    match regAt offset.toNat with
    | none => some .addr
    | some r =>
      if isWrite && r.access == .ro then some .roWr
      else if isWrite && r.access == .rwl && s.phase != .idle then some .busyWr
      else none

/-- The value an accepted or rejected `RD` returns (45_host_access.md R240; 20_memory.md R69: 0 when rejected). -/
def readValue (s : State) (offset : Offset) : Word :=
  match regAt offset.toNat with
  | some r => readReg s r
  | none => 0

/-- RD: 45_host_access.md R240. The returned value is in `rdata` (log 4). -/
def execRd (offset : Offset) (size : Nat) (s : State) : Host.Outcome State Fault Refusal :=
  match accessError s false offset size with
  | some code => .next { s.raise code (offsetInfo offset) with rdata := 0 }
  | none => .next { s with rdata := readValue s offset }

/-- The write effect of an accepted `WR` (45_host_access.md R242): CMD dispatches, every other register stores. -/
def writeEffect (offset : Offset) (v : Word) (s : State) : Host.Outcome State Fault Refusal :=
  match regAt offset.toNat with
  | some .cmd => dispatchCommand v s
  | some r => .next (writeReg s v r)
  | none => .next s

/-- WR: 45_host_access.md R241. -/
def execWr (offset : Offset) (size : Nat) (v : Word) (s : State) : Host.Outcome State Fault Refusal :=
  match accessError s true offset size with
  | some code => .next (s.raise code (offsetInfo offset))
  | none => writeEffect offset v s

end Sys2Proof.Machine
end

