-- ==== Sys2Proof/Machine/MultiWorker.lean ====
section
/-! DEFINITION. The proof-of-work search in multi mode: cand, LaneHeader, and the engine steps LANE_CLAIM, LANE_ATTEMPT and
FINISH (44_multi_worker.md). -/

namespace Sys2Proof.Machine

/-- `cand(k)` relative to a base nonce and time (44_multi_worker.md R216): the pair (nonce, time). -/
def cand (baseNonce baseTime : Word) (k : Nat) : Word × Word :=
  (BitVec.ofNat 32 (baseNonce.toNat + k), baseTime + BitVec.ofNat 32 ((baseNonce.toNat + k) / 2 ^ 32))

/-- The candidate a lane tries at position `idx` of the range at `base`: `k = (b + x) mod 2^64` (R220). -/
def State.laneCand (s : State) (base : U64) (idx : Nat) : Word × Word :=
  cand s.baseNonce s.baseTime ((base.toNat + idx) % 2 ^ 64)

/-- `LaneHeader(k)` (R217): the template with only nonce and time replaced. -/
def State.laneHeader (s : State) (base : U64) (idx : Nat) : Header :=
  s.header.withCandidate (s.laneCand base idx)

/-- When LANE_CLAIM(i) is enabled (R218). -/
def State.laneClaimEnabled (s : State) (i : Nat) : Bool :=
  s.phase == .searching && s.multi && s.lane i == .claim

/-- The range that lane `i` works on, when LANE_ATTEMPT(i) is enabled (R220). -/
def State.laneWork (s : State) (i : Nat) : Option (U64 × Nat) :=
  if s.phase = .searching ∧ s.multi = true then
    match s.lane i with
    | .work base idx => some (base, idx)
    | .claim => none
    | .off => none
  else none

/-- When FINISH is enabled (R222). -/
def State.finishEnabled (s : State) : Bool := s.phase == .searching && s.multi && s.allLanesOff

/-- LANE_CLAIM(i): 44_multi_worker.md R218. -/
def execLaneClaim (i : Nat) (s : State) : Host.Outcome State Fault Refusal :=
  if s.laneClaimEnabled i then
    .next
      (if s.cancel then s.setLane i .off
      else { s.setLane i (.work s.claim 0) with claim := s.claim + s.range.setWidth 64 })
  else .refused .stepNotEnabled

/-- The winning lane attempt (R220): the first branch. -/
def State.laneWins (s : State) (i : Nat) (h : Header) (d : U256) : State :=
  { s.latchWinner.setLane i .off with cancel := true, header := h, digest := d, hashCnt := s.nextCount }

/-- Where a lane goes after an attempt at position `idx` that does not win (R220). -/
def State.nextPosition (s : State) (base : U64) (idx : Nat) : LaneState :=
  if idx + 1 = s.range.toNat then .claim else .work base (idx + 1)

/-- A lane attempt that does not win (R220): the second branch. -/
def State.laneGoesOn (s : State) (i : Nat) (base : U64) (idx : Nat) (d : U256) : State :=
  { (s.noteProgress s.nextCount d).setLane i (s.nextPosition base idx) with hashCnt := s.nextCount }

/-- LANE_ATTEMPT(i): 44_multi_worker.md R220. -/
def execLaneAttempt (i : Nat) (s : State) : Host.Outcome State Fault Refusal :=
  match s.laneWork i with
  | some (base, idx) =>
    let h := s.laneHeader base idx
    .next
      (if headerDigest h ≤ s.target ∧ s.winner = false then s.laneWins i h (headerDigest h)
      else s.laneGoesOn i base idx (headerDigest h))
  | none => .refused .stepNotEnabled

/-- FINISH: 44_multi_worker.md R222. -/
def execFinish (s : State) : Host.Outcome State Fault Refusal :=
  if s.finishEnabled then
    .next
      (if s.winner then { s with phase := .found, cancel := false }
      else { s with phase := .idle, cancel := false, irqStatus := s.irqStatus ||| evStopped })
  else .refused .stepNotEnabled

end Sys2Proof.Machine
end

