-- ==== Sys2Proof/Machine/Dispatch.lean ====
section
/-! DEFINITION. The meaning of every operation: one arm per constructor of Instr (30_encoding.md R99). -/

namespace Sys2Proof.Machine

def exec (i : Instr) (s : State) : Host.Outcome State Fault Refusal :=
  match i with
  | .nop => Sys2Proof.Machine.execNop s
  | .hash => Sys2Proof.Machine.execHash s
  | .decode => Sys2Proof.Machine.execDecode s
  | .compare => Sys2Proof.Machine.execCompare s
  | .advance => Sys2Proof.Machine.execAdvance s
  | .start => Sys2Proof.Machine.execStart s
  | .stop => Sys2Proof.Machine.execStop s
  | .ack => Sys2Proof.Machine.execAck s
  | .srst => Sys2Proof.Machine.execSrst s
  | .rd offset size => Sys2Proof.Machine.execRd offset size s
  | .wr offset size value => Sys2Proof.Machine.execWr offset size value s
  | .attempt => Sys2Proof.Machine.execAttempt s
  | .seqCancel => Sys2Proof.Machine.execSeqCancel s
  | .laneClaim lane => Sys2Proof.Machine.execLaneClaim lane s
  | .laneAttempt lane => Sys2Proof.Machine.execLaneAttempt lane s
  | .finish => Sys2Proof.Machine.execFinish s
  | .reserved word => Sys2Proof.Machine.execReserved word s

end Sys2Proof.Machine
end

