-- ==== Sys2Proof/Machine/Fetch.lean ====
section
/-! DEFINITION. What the machine takes up next: the agenda's first input, or, where the agenda is empty, an engine step of
the free scheduler's choice (00_scope.md R11; 43_pow_search.md R188; 44_multi_worker.md R219; log 1, log 2). -/

namespace Sys2Proof.Machine

/-- The engine step of lane `i` that is enabled while a multi mode search runs (44_multi_worker.md R219). -/
def laneStep (s : State) (i : Nat) : Option Instr :=
  match s.lane i with
  | .claim => some (.laneClaim i)
  | .work _ _ => some (.laneAttempt i)
  | .off => none

/-- The enabled engine steps (43_pow_search.md R188; 44_multi_worker.md R219). -/
def enabledSteps (s : State) : List Instr :=
  if s.phase = .searching then
    if s.multi then
      (List.range s.lanes.length).filterMap (laneStep s) ++ (if s.allLanesOff then [.finish] else [])
    else if s.cancel then [.seqCancel]
    else [.attempt]
  else []

/-- One of the enabled steps by number, counted round; none if none is enabled. -/
def chosenStep (s : State) (choice : Nat) : Option Instr :=
  (enabledSteps s)[choice % (enabledSteps s).length]?

/-- An engine step, if one is enabled: otherwise the block waits (log 17). -/
def fetchEngine (choice : Nat) (s : State) : Fetched :=
  match chosenStep s choice with
  | some i => .run i s
  | none => .nothing s

/-- A host bus access: its operation, if it is an access to this block (30_encoding.md R98; log 9). -/
def fetchBus (a : Access) (s : State) : Fetched :=
  match decodeAccess a with
  | .ok i => .run i s
  | .error _ => .nothing s

/-- What the machine takes up next (log 1). -/
def fetch (s : State) : Fetched :=
  match s.agenda with
  | [] => fetchEngine (Config.schedule s.ticks) { s with ticks := s.ticks + 1 }
  | .bus a :: rest => fetchBus a { s with agenda := rest }
  | .engine choice :: rest => fetchEngine choice { s with agenda := rest }
  | .reset :: rest => .resetInput { s with agenda := rest }

/-- The command word `w` of `nbits` bits, put before everything else the outside world does (log 11). -/
def State.withCommand (s : State) (nbits w : Nat) : State :=
  { s with agenda := .bus (commandAccess (tableWord nbits w)) :: s.agenda }

end Sys2Proof.Machine
end

