-- ==== Sys2Proof/Machine/Step.lean ====
section
/-! DEFINITION. One step of the block (00_scope.md R11): a host access with the whole effect of a command, one engine step,
or a reset; a step with nothing to do leaves the block as it is (log 17). -/

namespace Sys2Proof.Machine

/-- One step (00_scope.md R11). -/
def step (s : State) : Host.Outcome State Fault Refusal :=
  match fetch s with
  | .run i t => exec i t
  | .resetInput t => .next t.hardReset
  | .nothing t => .next t

/-- `s` with the command word `w` of `nbits` bits as the next host access (log 11). -/
def State.withFetchWord (s : State) (nbits w : Nat) : State := s.withCommand nbits w

end Sys2Proof.Machine
end

