-- ==== Sys2Proof/Machine/Script.lean ====
section
/-! DEFINITION. The script lines and pseudo-operations of the spec's assembler, as agenda entries (30_encoding.md R105,
R107). They are host notation: the block sees the bus accesses they expand to. -/

namespace Sys2Proof.Machine

/-- `WR <reg>, <value>` and `WR <reg>[j], <value>` (R105). -/
def scriptWr (r : RegName) (v : Word) : Input := .bus (.write r.offset 4 v)

/-- `RD <reg>` (R105). -/
def scriptRd (r : RegName) : Input := .bus (.read r.offset 4)

/-- `<COMMAND>` (R105): the bus write of the command's word; nothing for an operation the host does not issue. -/
def scriptOp (i : Instr) : List Input :=
  match encode i with
  | some a => [.bus a]
  | none => []

/-- `WR256 <reg>, v` (R107): word 0 first. -/
def scriptWr256 (reg : Fin 8 → RegName) (v : U256) : List Input :=
  (List.finRange 8).map fun j => scriptWr (reg j) (wordOf v j)

/-- `WRHDR` of an 80-byte sequence (R107): twenty writes at 0x000, 0x004, ..., 0x04C. -/
def scriptWrHdr (b : List Byte) : List Input :=
  (List.range 20).map fun w => .bus (.write (4 * w) 4 (BitVec.ofNat 32 (intLe (slice b (4 * w) 4))))

/-- `RD256 <reg>` (R107). -/
def scriptRd256 (reg : Fin 8 → RegName) : List Input := (List.finRange 8).map fun j => scriptRd (reg j)

/-- `RD64 <reg>` (R107): LO, then HI. -/
def scriptRd64 (lo hi : RegName) : List Input := [scriptRd lo, scriptRd hi]

/-- `RUN n` (R107) with the schedule written out: one engine step per choice. -/
def scriptRun (choices : List Nat) : List Input := choices.map .engine

/-- `WAIT` (R107) as far as `n` polls of STATUS go; "it may never hold" (00_scope.md R19; log 19). -/
def scriptPoll (n : Nat) : List Input := List.replicate n (scriptRd .status)

end Sys2Proof.Machine
end

