-- ==== Sys2Proof/Safety.lean ====
section
/-! DEFINITION. What claims about runs are stated in: the invariant of 10_state.md R58 with what makes it inductive, the
claim invariant of 44_multi_worker.md R224 and R226, the draining measure of R221, states that differ in observation
registers only (43_pow_search.md R192), and runs with weak fairness (00_scope.md R11). -/

namespace Sys2Proof.Machine

/-- The invariant of 10_state.md R58: (a) is the type of STATE, (b) `restQuiet`, (c) `winnerBusy` and `foundHasWinner`,
(d) `seqLanesOff`, (f) `resultMeetsTarget`; (e) is a statement about steps. The other fields are what the rules of the
search give besides, and what makes the whole inductive (DEDUCED from 43_pow_search.md R187, R189 and
44_multi_worker.md R218 to R222; log 20). -/
structure State.Inv (s : State) : Prop where
  /-- One lane state per lane (R50), and at least one lane (00_scope.md R6). -/
  lanesCount : s.lanes.length = s.nlanes.toNat
  someLane : 1 ≤ s.nlanes.toNat
  /-- R58 (b). -/
  restQuiet : s.phase ≠ .searching → s.allLanesOff = true ∧ s.cancel = false
  /-- R58 (c). -/
  winnerBusy : s.winner = true → s.phase ≠ .idle
  foundHasWinner : s.phase = .found → s.winner = true
  /-- R58 (d). -/
  seqLanesOff : s.multi = false → s.allLanesOff = true
  /-- A sequential search that has a winner is no longer searching (R189). -/
  seqNoWinner : s.phase = .searching → s.multi = false → s.winner = false
  /-- The winner of a multi mode search has set the cancel flag (R220). -/
  winnerCancels : s.phase = .searching → s.winner = true → s.cancel = true
  /-- R58 (f), from the winning step on (R220, R223). -/
  resultMeetsTarget : s.winner = true → headerDigest s.header = s.digest ∧ s.digest ≤ s.target
  /-- RANGE is not 0 in a running multi mode search (R187, R218). -/
  rangePositive : s.phase = .searching → s.multi = true → s.range ≠ 0
  /-- The position of a working lane lies in its range (R50). -/
  workInRange : ∀ i base idx, s.lane i = .work base idx → idx < s.range.toNat
  /-- FINISH is enabled only after a STOP or a winner (R222). -/
  stillWorking : s.phase = .searching → s.multi = true → s.cancel = false → s.allLanesOff = false

/-- What the claims of one search keep as long as CLAIM has not wrapped (44_multi_worker.md R224, R226). -/
structure State.ClaimInv (s : State) : Prop where
  /-- A range in hand lies below CLAIM. -/
  belowClaim : ∀ i base idx, s.lane i = .work base idx → base.toNat + s.range.toNat ≤ s.claim.toNat
  /-- The ranges in the hands of two lanes are disjoint. -/
  disjoint : ∀ i j base idx base' idx', i ≠ j → s.lane i = .work base idx → s.lane j = .work base' idx' →
    base.toNat + s.range.toNat ≤ base'.toNat ∨ base'.toNat + s.range.toNat ≤ base.toNat
  /-- A latched winner is a claimed candidate. -/
  winnerClaimed : s.multi = true → s.winner = true →
    ∃ k, k < s.claim.toNat ∧ (s.header.nonce, s.header.time) = cand s.baseNonce s.baseTime k

/-- How many lane steps a lane still takes once CANCEL = 1, at most (44_multi_worker.md R221). -/
def drainOf (range : Nat) : LaneState → Nat
  | .off => 0
  | .claim => 1
  | .work _ idx => range - idx + 1

/-- How many lane steps the lanes still take once CANCEL = 1, at most (R221). -/
def State.drain (s : State) : Nat := (s.lanes.map (drainOf s.range.toNat)).sum

/-- The two states agree in everything but the observation registers: PROG_INTERVAL, PROG_CNT, PROG_DIGEST, IRQ_STATUS,
IRQ_ENABLE and ERR (43_pow_search.md R192; 60_exceptions.md R267, R272). -/
def SameSearch (s t : State) : Prop :=
  t = { s with
    progInterval := t.progInterval, progCnt := t.progCnt, progDigest := t.progDigest,
    irqStatus := t.irqStatus, irqEnable := t.irqEnable, err := t.err }

/-- The end of a run (00_scope.md R19): STATE is no longer Searching. -/
def State.searchEnded (s : State) : Prop := s.phase ≠ .searching

/-- An infinite run of the block: after each step the outside world may have changed its mind about what comes next
(45_host_access.md R246; log 1). -/
def IsRun (r : Nat → State) : Prop :=
  ∀ n, ∃ (t : State) (agenda : List Input), step (r n) = .next t ∧ r (n + 1) = { t with agenda := agenda }

/-- Step `n` of the run is the operation `i`. -/
def TakenAt (r : Nat → State) (i : Instr) (n : Nat) : Prop := ∃ s, fetch (r n) = .run i s

/-- Weak fairness (00_scope.md R11): an engine step that stays enabled is eventually taken. A hypothesis on runs, not a
property of `step` (log 10). -/
def WeaklyFair (r : Nat → State) : Prop :=
  ∀ i n, (∀ m, n ≤ m → i ∈ enabledSteps (r m)) → ∃ m, n ≤ m ∧ TakenAt r i m

end Sys2Proof.Machine
end

