-- ==== Sys2Proof/Certificates/Slice0/Obligations.lean ====
section
/-! DEFINITION. The statements about the block, each from the numbered rules its docstring names. -/

open Sys2Proof Sys2Proof.Machine

/-! ### Encodings and the step -/

/-- 30_encoding.md R106, R101: a written value selects a command exactly when it is that command's word; every other value
raises E_BADCMD. -/
def Obligations.CommandWordsSelectTheirCommands : Prop :=
  ∀ w : Word,
    (decodeCommand w = .nop ↔ w = 0x00) ∧ (decodeCommand w = .hash ↔ w = 0x01) ∧ (decodeCommand w = .decode ↔ w = 0x02) ∧
    (decodeCommand w = .compare ↔ w = 0x03) ∧ (decodeCommand w = .advance ↔ w = 0x04) ∧
    (decodeCommand w = .start ↔ w = 0x05) ∧ (decodeCommand w = .stop ↔ w = 0x06) ∧ (decodeCommand w = .ack ↔ w = 0x07) ∧
    (decodeCommand w = .srst ↔ w = 0x08) ∧
    (8 < w.toNat → ∀ s : State, exec (.wr 0x0C4 4 w) s = .next (s.raise .badCmd (w.setWidth 24)))

/-- Words of opcode_table.json (how_issued) and one read and one write of 30_encoding.md R98 decode to what they stand for. -/
def Obligations.WrittenOutAccessesDecode : Prop :=
  decodeAccess (.write 0x0C4 4 0x00000000) = .ok .nop ∧
  decodeAccess (.write 0x0C4 4 0x00000005) = .ok .start ∧
  decodeAccess (.write 0x0C4 4 0x00000008) = .ok .srst ∧
  decodeAccess (.write 0x0C4 4 0x00000009) = .ok (.reserved 0x00000009) ∧
  decodeAccess (.write 0x0C4 4 0x00000105) = .ok (.reserved 0x00000105) ∧
  decodeAccess (.write 0x04C 4 0x7C2BAC1D) = .ok (.wr 0x04C 4 0x7C2BAC1D) ∧
  decodeAccess (.read 0x0C8 4) = .ok (.rd 0x0C8 4) ∧
  decodeAccess (.read 0x1000 4) = .error .outsideWindow

/-- Decode and encode agree: every well-formed operation the host can issue has an access, and that access decodes to it. -/
def Obligations.DecodeInvertsEncode : Prop :=
  ∀ i : Instr, i.wf = true → i.isEngineStep = false → ∃ a, encode i = some a ∧ decodeAccess a = .ok i

/-- Each access inside the window has one meaning: what it decodes to is well formed, is no engine step, and encodes back to
that very access, so that no bit of it is dropped. -/
def Obligations.EncodeInvertsDecode : Prop :=
  ∀ (a : Access) (i : Instr), decodeAccess a = .ok i → i.wf = true ∧ i.isEngineStep = false ∧ encode i = some a

/-- 45_host_access.md R243: the dispatch of a 4-byte write to CMD, the whole command in the one step. -/
def Obligations.WriteToCmdRunsTheCommand : Prop :=
  ∀ s : State,
    exec (.wr 0x0C4 4 0x00) s = exec .nop s ∧ exec (.wr 0x0C4 4 0x01) s = exec .hash s ∧
    exec (.wr 0x0C4 4 0x02) s = exec .decode s ∧ exec (.wr 0x0C4 4 0x03) s = exec .compare s ∧
    exec (.wr 0x0C4 4 0x04) s = exec .advance s ∧ exec (.wr 0x0C4 4 0x05) s = exec .start s ∧
    exec (.wr 0x0C4 4 0x06) s = exec .stop s ∧ exec (.wr 0x0C4 4 0x07) s = exec .ack s ∧
    exec (.wr 0x0C4 4 0x08) s = exec .srst s ∧
    (∀ w : Word, zeroField w ≠ 0 ∨ 0x08 < (opc w).toNat →
      exec (.wr 0x0C4 4 w) s = .next (s.raise .badCmd (w.setWidth 24)))

/-- A step runs the decoded operation: with a host access to this block at the head of the agenda, the step is that
operation's meaning, in the state without the access.
The agenda is the model's choice (log 1). -/
def Obligations.StepRunsTheDecodedAccess : Prop :=
  ∀ (s : State) (a : Access) (rest : List Input) (i : Instr),
    s.agenda = .bus a :: rest → decodeAccess a = .ok i → step s = exec i { s with agenda := rest }

/-- 44_multi_worker.md R219, 43_pow_search.md R188: any enabled engine step may be the next one, and an engine input runs one
of the enabled steps.
Agenda and scheduler are the model's choice (log 1, log 2). -/
def Obligations.AnyEnabledStepMayBeNext : Prop :=
  (∀ (s : State) (rest : List Input) (i : Instr), i ∈ enabledSteps s →
    ∃ choice, step { s with agenda := .engine choice :: rest } = exec i { s with agenda := rest }) ∧
  (∀ (s : State) (rest : List Input) (choice : Nat), s.agenda = .engine choice :: rest → enabledSteps s ≠ [] →
    ∃ i, i ∈ enabledSteps s ∧ step s = exec i { s with agenda := rest }) ∧
  (∀ s : State, s.agenda = [] → enabledSteps s ≠ [] →
    ∃ i, i ∈ enabledSteps s ∧ step s = exec i { s with ticks := s.ticks + 1 })

/-- 70_reset_and_hazards.md R290, 45_host_access.md R245: the reset input is one step, in every state, to the reset values, with
no event, and SRST has the same effect. That rdata, agenda and ticks stay is the model's choice (log 1, log 2, log 4). -/
def Obligations.ResetInputAndSoftReset : Prop :=
  ∀ s : State,
    (∀ rest : List Input, s.agenda = .reset :: rest →
      step s = .next { State.resetTo s.nlanes with rdata := s.rdata, agenda := rest, ticks := s.ticks }) ∧
    exec .srst s = .next { State.resetTo s.nlanes with rdata := s.rdata, agenda := s.agenda, ticks := s.ticks }

/-- The model's choice (log 9, log 17): an access outside the window, and an engine turn with nothing enabled, change no
register. -/
def Obligations.NothingToDoChangesNoRegister : Prop :=
  (∀ (s : State) (rest : List Input) (a : Access) (e : DecodeError), s.agenda = .bus a :: rest →
    decodeAccess a = .error e → step s = .next { s with agenda := rest }) ∧
  (∀ (s : State) (rest : List Input) (choice : Nat), s.agenda = .engine choice :: rest → enabledSteps s = [] →
    step s = .next { s with agenda := rest }) ∧
  (∀ s : State, s.agenda = [] → enabledSteps s = [] → step s = .next { s with ticks := s.ticks + 1 })

/-! ### Totality -/

/-- 60_exceptions.md R268, 45_host_access.md R246: every operation the block takes up has a next state; nothing stops it. That
`step` also answers a next state where it has nothing to do, at an access outside the window (log 9) and where no engine step
is enabled (log 17), is the model's choice. -/
def Obligations.EveryStepHasANextState : Prop := ∀ s : State, ∃ t, step s = .next t

/-- 43_pow_search.md R188, 44_multi_worker.md R219: an engine step has an effect exactly where it is enabled.
The refusal elsewhere is the model's choice (log 5). -/
def Obligations.EngineStepsRunExactlyWhereEnabled : Prop :=
  ∀ (s : State) (i : Instr), i.isEngineStep = true →
    ((∃ t, exec i s = .next t) ↔ i ∈ enabledSteps s) ∧
    (i ∉ enabledSteps s → exec i s = .refused .stepNotEnabled)

/-- 43_pow_search.md R188: in sequential mode exactly one engine step is enabled while Searching, none otherwise. -/
def Obligations.SequentialModeHasOneEnabledStep : Prop :=
  ∀ (s : State) (i : Instr),
    (s.phase = .searching → s.multi = false →
      (i ∈ enabledSteps s ↔ i = (if s.cancel = true then .seqCancel else .attempt)) ∧ (enabledSteps s).length = 1) ∧
    (s.phase ≠ .searching → i ∉ enabledSteps s)

/-! ### Invariants -/

/-- 10_state.md R58: the reset state of every instance meets the invariant. -/
def Obligations.ResetMeetsTheInvariant : Prop :=
  (∀ n : BitVec 8, n ≠ 0 → (State.resetTo n).Inv ∧ (State.resetTo n).ClaimInv) ∧ State.reset.Inv

/-- 10_state.md R58: every step keeps the invariant, from every state that meets it. -/
def Obligations.EveryStepKeepsTheInvariant : Prop :=
  ∀ s t : State, s.Inv → step s = .next t → t.Inv

/-- 10_state.md R32: STATE changes only by the listed operations. -/
def Obligations.StateChangesOnlyAsListed : Prop :=
  ∀ (i : Instr) (s t : State), i.wf = true → exec i s = .next t → t.phase = s.phase ∨
    (i = .start ∧ s.phase = .idle ∧ t.phase = .searching) ∨
    (i = .attempt ∧ s.phase = .searching ∧ t.phase = .found) ∨
    (i = .finish ∧ s.phase = .searching ∧ s.winner = true ∧ t.phase = .found) ∨
    (i = .seqCancel ∧ s.phase = .searching ∧ t.phase = .idle) ∨
    (i = .finish ∧ s.phase = .searching ∧ s.winner = false ∧ t.phase = .idle) ∨
    (i = .ack ∧ s.phase = .found ∧ t.phase = .idle) ∨
    (i = .srst ∧ t.phase = .idle)

/-- 10_state.md R58 (e): while STATE is not Idle no locked register changes but NONCE, TIME and DIGEST, and those only by
engine steps; reset apart. -/
def Obligations.LockedRegistersHoldWhileBusy : Prop :=
  ∀ (i : Instr) (s t : State), i.wf = true → i ≠ .srst → s.phase ≠ .idle → exec i s = .next t →
    (t.header.version = s.header.version ∧ t.header.prev = s.header.prev ∧ t.header.merkle = s.header.merkle ∧
      t.header.bits = s.header.bits ∧ t.limit = s.limit ∧ t.target = s.target ∧ t.progInterval = s.progInterval ∧
      t.clamp = s.clamp ∧ t.multi = s.multi ∧ t.range = s.range ∧ t.nwork = s.nwork) ∧
    (i.isEngineStep = false → t.header = s.header ∧ t.digest = s.digest)

/-- 44_multi_worker.md R224, R226: as long as CLAIM does not wrap, the ranges in the lanes' hands stay disjoint and below
CLAIM, and a latched winner is a claimed candidate. -/
def Obligations.ClaimedRangesStayDisjoint : Prop :=
  ∀ s t : State, s.Inv → s.ClaimInv → s.claim.toNat + s.range.toNat < 2 ^ 64 → step s = .next t → t.ClaimInv

/-- 44_multi_worker.md R225: a step adds to FOUNDCNT or newly sets FOUND only as the one winner of a running search, and
nothing takes the winner back while the search runs; reset apart. -/
def Obligations.OneWinnerPerSearch : Prop :=
  ∀ (i : Instr) (s t : State), s.Inv → i.wf = true → i ≠ .srst → exec i s = .next t →
    ((t.foundCnt = s.foundCnt ∧ (t.winner = true → s.winner = true) ∧
        (t.irqStatus.getLsbD 0 = true → s.irqStatus.getLsbD 0 = true)) ∨
      (s.phase = .searching ∧ s.winner = false ∧ t.winner = true ∧ t.foundCnt = s.foundCnt + 1 ∧
        t.irqStatus.getLsbD 0 = true)) ∧
    (s.phase = .searching → s.winner = true → t.winner = true)

/-- 44_multi_worker.md R219: a lane's step stays enabled until that step is taken, whatever else happens; reset apart. -/
def Obligations.EnabledLaneStepStaysEnabled : Prop :=
  ∀ (i j : Instr) (s t : State) (lane : Nat), (i = .laneClaim lane ∨ i = .laneAttempt lane) → i ∈ enabledSteps s →
    j.wf = true → j ≠ .srst → j ≠ i → exec j s = .next t → i ∈ enabledSteps t

/-! ### Errors, events and the register map -/

/-- 10_state.md R56, R47: the register table names each register word at its offset and nothing else. -/
def Obligations.RegisterTableIsExact : Prop :=
  (∀ r : RegName, regAt r.offset = some r ∧ r.offset % 4 = 0 ∧ r.offset < 0x114) ∧
  (∀ (o : Nat) (r : RegName), regAt o = some r → o = r.offset) ∧
  (∀ o : Nat, o % 4 = 0 → o < 0x114 → (regAt o).isSome = true)

/-- 10_state.md R57, with R56: what the host reads in every register after reset, the hidden state, and the irq output. -/
def Obligations.ResetValues : Prop :=
  ∀ n : BitVec 8,
    (∀ r : RegName, readReg (State.resetTo n) r =
      match r with
      | .limit _ => 0xFFFFFFFF
      | .progInterval => 0x000186A0
      | .range => 0x000003E8
      | .nwork => n.setWidth 32
      | .nlanes => n.setWidth 32
      | _ => 0) ∧
    (State.resetTo n).lanes.length = n.toNat ∧ (∀ l, l ∈ (State.resetTo n).lanes → l = .off) ∧
    (State.resetTo n).baseNonce = 0 ∧ (State.resetTo n).baseTime = 0 ∧ (State.resetTo n).irq = false

/-- 10_state.md R37: the fields of the STATUS word the host reads, with the three values of STATE (R31), zeros in bit 7 and
bits 31:12, the reset value, and the rejected write. -/
def Obligations.StatusWordLayout : Prop :=
  (∀ s : State,
    let w := readReg s .status
    (w.extractLsb' 0 2).toNat = (match s.phase with | .idle => 0 | .searching => 1 | .found => 2) ∧
    w.getLsbD 2 = s.cancel ∧ w.getLsbD 3 = s.winner ∧
    w.getLsbD 4 = s.cmp.le ∧ w.getLsbD 5 = s.cmp.lt ∧ w.getLsbD 6 = s.cmp.eq ∧
    w.getLsbD 7 = false ∧
    w.getLsbD 8 = s.tflags.tneg ∧ w.getLsbD 9 = s.tflags.tovf ∧
    w.getLsbD 10 = s.tflags.tclamped ∧ w.getLsbD 11 = s.tflags.tzero ∧
    w.extractLsb' 12 20 = 0) ∧
  (∀ n : BitVec 8, readReg (State.resetTo n) .status = 0) ∧
  (∀ (s : State) (v : Word), exec (.wr 0x0C8 4 v) s = .next (s.raise .roWr 0x0000C8))

/-- 60_exceptions.md R262: the error entry keeps the first record, sets the ERROR event and changes nothing else.
That no record stands for CODE = 0 is the model's form (log 6). -/
def Obligations.FirstErrorIsKept : Prop :=
  ∀ (s : State) (code : ErrCode) (info : BitVec 24),
    (s.err = none → s.raise code info =
      { s with err := some { code := code, info := info }, irqStatus := s.irqStatus ||| 0b0100 }) ∧
    (∀ r, s.err = some r → s.raise code info = { s with irqStatus := s.irqStatus ||| 0b0100 })

/-- 45_host_access.md R240: a read of a mapped, aligned word returns the register and changes no register.
That the returned value stands in rdata is the model's choice (log 4). -/
def Obligations.ReadReturnsTheRegister : Prop :=
  ∀ (s : State) (offset : Offset) (r : RegName), regAt offset.toNat = some r →
    exec (.rd offset 4) s = .next { s with rdata := readReg s r }

/-- 10_state.md R20, R21, R24 to R31, R37 to R43, R46 to R49, R56: which field the host reads at each offset (words least
significant first, LO below HI), and which fields a write to CTRL sets. That the returned value stands in rdata is the model's
choice (log 4). -/
def Obligations.RegistersReadTheirFields : Prop :=
  (∀ s : State,
    let reads (o : Nat) (v : Nat) : Prop := exec (.rd (BitVec.ofNat 12 o) 4) s = .next { s with rdata := BitVec.ofNat 32 v }
    reads 0x000 s.header.version.toNat ∧ reads 0x044 s.header.time.toNat ∧ reads 0x048 s.header.bits.toNat ∧
    reads 0x04C s.header.nonce.toNat ∧
    (∀ j : Nat, j < 8 →
      reads (0x004 + 4 * j) (s.header.prev.toNat / 2 ^ (32 * j)) ∧
      reads (0x024 + 4 * j) (s.header.merkle.toNat / 2 ^ (32 * j)) ∧
      reads (0x050 + 4 * j) (s.limit.toNat / 2 ^ (32 * j)) ∧
      reads (0x070 + 4 * j) (s.target.toNat / 2 ^ (32 * j)) ∧
      reads (0x090 + 4 * j) (s.digest.toNat / 2 ^ (32 * j)) ∧
      reads (0x0E0 + 4 * j) (s.progDigest.toNat / 2 ^ (32 * j))) ∧
    reads 0x0B0 s.hashCnt.toNat ∧ reads 0x0B4 (s.hashCnt.toNat / 2 ^ 32) ∧
    reads 0x0B8 s.foundCnt.toNat ∧ reads 0x0BC s.progInterval.toNat ∧
    reads 0x0C0 (s.clamp.toNat + 2 * s.multi.toNat) ∧ reads 0x0C4 0 ∧
    reads 0x0C8 (readReg s .status).toNat ∧ reads 0x0CC (readReg s .err).toNat ∧
    reads 0x0D0 s.irqStatus.toNat ∧ reads 0x0D4 s.irqEnable.toNat ∧
    reads 0x0D8 s.progCnt.toNat ∧ reads 0x0DC (s.progCnt.toNat / 2 ^ 32) ∧
    reads 0x100 s.claim.toNat ∧ reads 0x104 (s.claim.toNat / 2 ^ 32) ∧
    reads 0x108 s.range.toNat ∧ reads 0x10C s.nwork.toNat ∧ reads 0x110 s.nlanes.toNat) ∧
  (∀ (s : State) (v : Word), s.phase = .idle →
    exec (.wr 0x0C0 4 v) s = .next { s with clamp := v.getLsbD 0, multi := v.getLsbD 1 })

/-- 45_host_access.md R240, 20_memory.md R68, R69: the rejected reads, in priority, and the value 0 they return.
That the returned value stands in rdata is the model's choice (log 4). -/
def Obligations.ReadRejections : Prop :=
  ∀ (s : State) (offset : Offset) (size : Nat),
    (size ≠ 4 ∨ offset.toNat % 4 ≠ 0 → exec (.rd offset size) s =
      .next { s.raise .align (offset.setWidth 24) with rdata := 0 }) ∧
    (size = 4 → offset.toNat % 4 = 0 → 0x114 ≤ offset.toNat → exec (.rd offset size) s =
      .next { s.raise .addr (offset.setWidth 24) with rdata := 0 })

/-- 45_host_access.md R241, 60_exceptions.md R264: the rejected writes, in priority; each changes nothing but the error
record and the ERROR event. -/
def Obligations.WriteRejections : Prop :=
  ∀ (s : State) (offset : Offset) (size : Nat) (v : Word),
    (size ≠ 4 ∨ offset.toNat % 4 ≠ 0 → exec (.wr offset size v) s = .next (s.raise .align (offset.setWidth 24))) ∧
    (size = 4 → offset.toNat % 4 = 0 → 0x114 ≤ offset.toNat →
      exec (.wr offset size v) s = .next (s.raise .addr (offset.setWidth 24))) ∧
    (∀ r, size = 4 → regAt offset.toNat = some r → r.access = .ro →
      exec (.wr offset size v) s = .next (s.raise .roWr (offset.setWidth 24))) ∧
    (∀ r, size = 4 → regAt offset.toNat = some r → r.access = .rwl → s.phase ≠ .idle →
      exec (.wr offset size v) s = .next (s.raise .busyWr (offset.setWidth 24)))

/-- 45_host_access.md R242: an accepted write stores the implemented bits of the register, and every other register and all
hidden state stay.
rdata, agenda and ticks are the model's own fields (log 1, log 2, log 4). -/
def Obligations.WriteStoresOneRegister : Prop :=
  ∀ (s : State) (offset : Offset) (r : RegName) (v : Word), regAt offset.toNat = some r →
    (r.access = .rw ∨ (r.access = .rwl ∧ s.phase = .idle)) →
    ∃ t, exec (.wr offset 4 v) s = .next t ∧
      readReg t r = v &&& (if r = .ctrl then 0x00000003 else if r = .irqEnable then 0x0000000F else 0xFFFFFFFF) ∧
      (∀ r', r' ≠ r → readReg t r' = readReg s r') ∧
      t.lanes = s.lanes ∧ t.baseNonce = s.baseNonce ∧ t.baseTime = s.baseTime ∧
      t.rdata = s.rdata ∧ t.agenda = s.agenda ∧ t.ticks = s.ticks

/-- 10_state.md R40: the fields of ERR with the eight code numbers (60_exceptions.md R260), its reset value, that it holds the first error since it was cleared, and that any
write, in any state, clears the whole register and nothing else. -/
def Obligations.ErrRegister : Prop :=
  (∀ n : BitVec 8, readReg (State.resetTo n) .err = 0) ∧
  (∀ s : State, s.err = none → readReg s .err = 0 ∧
    ∀ code info, (s.raise code info).err = some { code := code, info := info }) ∧
  (∀ (s : State) (r : ErrRecord), s.err = some r → ∀ code info, (s.raise code info).err = some r) ∧
  (∀ (s : State) (r : ErrRecord), s.err = some r →
    ((readReg s .err).extractLsb' 0 4).toNat =
      (match r.code with
      | .badCmd => 1
      | .state => 2
      | .busyWr => 3
      | .roWr => 4
      | .addr => 5
      | .align => 6
      | .negTarget => 7
      | .config => 8) ∧
    (readReg s .err).extractLsb' 4 4 = 0 ∧
    (readReg s .err).extractLsb' 8 24 = r.info) ∧
  (∀ (s : State) (v : Word), exec (.wr 0x0CC 4 v) s = .next { s with err := none })

/-- 10_state.md R41, R44; 60_exceptions.md R270: write-one-to-clear of IRQ_STATUS, in any state, bit by bit, and the irq
output. -/
def Obligations.EventBitsClearByWritingOnes : Prop :=
  ∀ (s : State) (v : Word),
    (∃ e : BitVec 4, exec (.wr 0x0D0 4 v) s = .next { s with irqStatus := e } ∧
      ∀ b, b < 4 → e.getLsbD b = (s.irqStatus.getLsbD b && !v.getLsbD b)) ∧
    (s.irq = true ↔ ∃ b, b < 4 ∧ s.irqStatus.getLsbD b = true ∧ s.irqEnable.getLsbD b = true)

/-- 60_exceptions.md R263: errors are precise. A step that newly sets the ERROR event is a rejected operation: the error
entry is all that happens, and a rejected read returns 0.
That the returned value stands in rdata is the model's choice (log 4). -/
def Obligations.ErrorsArePrecise : Prop :=
  ∀ (i : Instr) (s t : State), exec i s = .next t → s.irqStatus.getLsbD 2 = false → t.irqStatus.getLsbD 2 = true →
    i.isEngineStep = false ∧
    ∃ code info, t = s.raise code info ∨ ((∃ offset size, i = .rd offset size) ∧ t = { s.raise code info with rdata := 0 })

/-- 30_encoding.md R101: a reserved command word raises E_BADCMD and executes nothing. -/
def Obligations.ReservedWordIsRejected : Prop :=
  ∀ (w : Word) (s : State), w.extractLsb' 8 24 ≠ 0 ∨ 0x09 ≤ (w.extractLsb' 0 8).toNat →
    decodeCommand w = .reserved w ∧ exec (.reserved w) s = .next (s.raise .badCmd (w.setWidth 24))

/-- 43_pow_search.md R192, 60_exceptions.md R267, R272: two blocks that differ in the observation registers only stay so
through any number of engine steps, taken by the same choices.
Agenda, scheduler and steps with nothing to do are the model's choice (log 1, log 2, log 17). -/
def Obligations.ObservationNeverAffectsTheSearch : Prop :=
  ∀ (n : Nat) (s t s' : State), (∀ x, x ∈ s.agenda → ∃ choice, x = .engine choice) → SameSearch s t →
    Host.Core.run Sys2Proof.core n s = .next s' →
    ∃ t', Host.Core.run Sys2Proof.core n t = .next t' ∧ SameSearch s' t'

/-! ### Header codec -/

/-- 40_header_codec.md R134: HASH writes DIGEST and nothing else; outside Idle it is rejected. -/
def Obligations.HashCommandWritesDigest : Prop :=
  ∀ s : State,
    (s.phase = .idle → exec .hash s = .next { s with digest := headerDigest s.header }) ∧
    (s.phase ≠ .idle → exec .hash s = .next (s.raise .state 0x000001))

/-- 40_header_codec.md R137: the digest of the reference chain's block 0. -/
def Obligations.GenesisHeaderDigest : Prop :=
  headerDigest
    { version := 0x00000001, prev := 0
      merkle := 0x4a5e1e4baab89f3a32518a88c31bc87f618f76673e2cc77ab2127b7afdeda33b
      time := 0x495fab29, bits := 0x1d00ffff, nonce := 0x7c2bac1d } =
    0x000000000019d6689c085ae165831e934ff763ae46a2a6c172b3f1b60a8ce26f

/-- 40_header_codec.md R131: the blocks of the two messages the block hashes. -/
def Obligations.HashedBlocks : Prop :=
  (∀ h : Header, messageBlocks (serialize h) =
    [((headerWords h).take 16).map bswap32,
      ((headerWords h).drop 16).map bswap32 ++ [0x80000000] ++ List.replicate 10 0 ++ [0x00000280]]) ∧
  (∀ m : List Byte, messageBlocks (sha256 m) =
    [(shaFinal m).words ++ [0x80000000] ++ List.replicate 6 0 ++ [0x00000100]])

/-- 40_header_codec.md R133: word j of the digest value is the byte-swapped final chaining word j of the second hash, for
each of the eight, and the digits of its display are the bytes of the double hash in reverse order. -/
def Obligations.DigestWordsAreSwappedChainingWords : Prop :=
  ∀ m : List Byte,
    (shaFinal (sha256 m)).words.length = 8 ∧
    (∀ (j : Nat) (w : Word), (shaFinal (sha256 m)).words[j]? = some w → wordOf (hash256 m) j = bswap32 w) ∧
    hexPairs (hash256 m) = (sha256 (sha256 m)).reverse

/-- 40_header_codec.md R121: Serialize and Deserialize are inverse to each other. -/
def Obligations.SerializeRoundTrip : Prop :=
  (∀ h : Header, (serialize h).length = 80 ∧ deserialize (serialize h) = some h) ∧
  (∀ b : List Byte, b.length = 80 → ∃ h, deserialize b = some h ∧ serialize h = b)

/-- 20_memory.md R66: the byte image of offsets 0x000 to 0x04F is the serialised header. -/
def Obligations.HeaderWindowIsTheSerialization : Prop :=
  ∀ (s : State) (i : Nat), i < 80 → s.windowByte i = (serialize s.header)[i]?

/-- 20_memory.md R66, 30_encoding.md R107: writing the twenty words of a serialised header in Idle loads that header and
changes nothing else.
The agenda is the model's choice (log 1). -/
def Obligations.WritingTheWindowLoadsTheHeader : Prop :=
  ∀ (s : State) (h : Header) (rest : List Input), s.phase = .idle → s.agenda = scriptWrHdr (serialize h) ++ rest →
    Host.Core.run Sys2Proof.core 20 s = .next { s with header := h, agenda := rest }

/-! ### Target decoder and comparison -/

/-- 41_target_decoder.md R152, R151: value and overflow flag by exponent. -/
def Obligations.CompactDecodeByExponent : Prop :=
  ∀ bits : Word,
    let e := (bits.extractLsb' 24 8).toNat
    let m := (bits.extractLsb' 0 23).toNat
    let d := decodeCompact bits
    d.neg = bits.getLsbD 23 ∧
    (e ≤ 3 → d.value.toNat = m / 2 ^ (8 * (3 - e)) ∧ d.ovf = false) ∧
    (4 ≤ e → e ≤ 32 → d.value.toNat = m * 2 ^ (8 * (e - 3)) ∧ d.ovf = false) ∧
    (e = 33 → d.value.toNat = m % 2 ^ 16 * 2 ^ 240 ∧ (d.ovf = true ↔ 0xFFFF < m)) ∧
    (e = 34 → d.value.toNat = m % 2 ^ 8 * 2 ^ 248 ∧ (d.ovf = true ↔ 0xFF < m)) ∧
    (35 ≤ e → d.value = 0 ∧ (d.ovf = true ↔ m ≠ 0))

/-- 41_target_decoder.md R161: the decoded target word by word. -/
def Obligations.CompactDecodeByWords : Prop :=
  ∀ (bits : Word) (j : Nat), j < 8 →
    let e := (bits.extractLsb' 24 8).toNat
    let m := (bits.extractLsb' 0 23).toNat
    let q := 8 * (e - 3) / 32
    let r := 8 * (e - 3) % 32
    4 ≤ e → e ≤ 34 →
      (wordOf (decodeCompact bits).value j).toNat =
        (if j = q then m * 2 ^ r % 2 ^ 32 else if j = q + 1 then m * 2 ^ r / 2 ^ 32 else 0) ∧
      ((decodeCompact bits).ovf = true ↔ q + 1 = 8 ∧ m * 2 ^ r / 2 ^ 32 ≠ 0)

/-- 41_target_decoder.md R159, R158, R157, R156: DECODE latches the effective target and the four flags and nothing else;
outside Idle it is rejected. -/
def Obligations.DecodeCommandLatchesTheTarget : Prop :=
  ∀ s : State,
    let d := decodeCompact s.header.bits
    let eff := if s.clamp = true then (if d.value ≤ s.limit then d.value else s.limit) else d.value
    (s.phase = .idle → exec .decode s = .next
      { s with
        target := eff
        tflags :=
          { tneg := d.neg, tovf := d.ovf, tclamped := s.clamp && decide (s.limit < d.value), tzero := decide (eff = 0) } }) ∧
    (s.phase ≠ .idle → exec .decode s = .next (s.raise .state 0x000002))

/-- 42_uint256_compare.md R171: the word by word comparison decides the order of the integers. -/
def Obligations.CompareIsTheIntegerOrder : Prop :=
  ∀ a b : U256,
    (compare256 a b = .lt ↔ a.toNat < b.toNat) ∧ (compare256 a b = .eq ↔ a.toNat = b.toNat) ∧
    (compare256 a b = .gt ↔ b.toNat < a.toNat)

/-- 42_uint256_compare.md R176: COMPARE writes LT, EQ, LE from DIGEST and TARGET and nothing else; outside Idle it is
rejected. -/
def Obligations.CompareCommandWritesFlags : Prop :=
  ∀ s : State,
    (s.phase = .idle → exec .compare s = .next
      { s with
        cmp :=
          { lt := decide (s.digest.toNat < s.target.toNat), eq := decide (s.digest = s.target)
            le := decide (s.digest.toNat ≤ s.target.toNat) } }) ∧
    (s.phase ≠ .idle → exec .compare s = .next (s.raise .state 0x000003))

/-! ### Search, sequential mode -/

/-- 43_pow_search.md R186, with R185: ADVANCE steps NONCE, and TIME when NONCE wraps to 0, and nothing else; outside Idle it
is rejected. -/
def Obligations.AdvanceCommandStepsTheCandidate : Prop :=
  ∀ s : State,
    (s.phase = .idle → ∃ nonce time : Word,
      exec .advance s = .next { s with header := { s.header with nonce := nonce, time := time } } ∧
      nonce.toNat = (s.header.nonce.toNat + 1) % 2 ^ 32 ∧
      time.toNat = (if nonce = 0 then (s.header.time.toNat + 1) % 2 ^ 32 else s.header.time.toNat)) ∧
    (s.phase ≠ .idle → exec .advance s = .next (s.raise .state 0x000004))

/-- 43_pow_search.md R187: START, its rejections in their priority and its effect in both modes. -/
def Obligations.StartCommand : Prop :=
  ∀ s : State,
    let badConfig := s.multi = true ∧ (s.nwork = 0 ∨ s.nlanes.toNat < s.nwork.toNat ∨ s.range = 0)
    let d := decodeCompact s.header.bits
    let eff := if s.clamp = true then (if d.value ≤ s.limit then d.value else s.limit) else d.value
    (s.phase ≠ .idle → exec .start s = .next (s.raise .state 0x000005)) ∧
    (s.phase = .idle → badConfig → exec .start s = .next (s.raise .config 0x000005)) ∧
    (s.phase = .idle → ¬badConfig → s.header.bits.getLsbD 23 = true →
      exec .start s = .next (s.raise .negTarget 0x000005)) ∧
    (s.phase = .idle → ¬badConfig → s.header.bits.getLsbD 23 = false →
      exec .start s = .next
        { s with
          target := eff
          tflags :=
            { tneg := false, tovf := d.ovf, tclamped := s.clamp && decide (s.limit < d.value), tzero := decide (eff = 0) }
          hashCnt := 0, claim := 0, cancel := false, winner := false, phase := .searching
          baseNonce := if s.multi = true then s.header.nonce else s.baseNonce
          baseTime := if s.multi = true then s.header.time else s.baseTime
          lanes :=
            if s.multi = true then
              (List.range s.nlanes.toNat).map fun i => if i < s.nwork.toNat then LaneState.claim else LaneState.off
            else s.lanes })

/-- 43_pow_search.md R193, R194; 45_host_access.md R244: STOP, ACK and NOP in every state. -/
def Obligations.StopAckAndNopCommands : Prop :=
  ∀ s : State,
    (s.phase = .searching → exec .stop s = .next { s with cancel := true }) ∧
    (s.phase ≠ .searching → exec .stop s = .next s) ∧
    (s.phase = .searching → exec .ack s = .next (s.raise .state 0x000007)) ∧
    (s.phase = .found → exec .ack s = .next { s with phase := .idle, winner := false }) ∧
    (s.phase = .idle → exec .ack s = .next s) ∧
    exec .nop s = .next s

/-- 43_pow_search.md R189: ATTEMPT, when it is enabled, the succeeding and the failing attempt, the latter with its progress
event.
The progress test is that of its pseudocode, which differs from R192's prose where the count wraps to 0 (log 21). -/
def Obligations.SequentialAttempt : Prop :=
  ∀ s : State,
    (Instr.attempt ∈ enabledSteps s ↔ s.phase = .searching ∧ s.multi = false ∧ s.cancel = false) ∧
    (s.phase = .searching → s.multi = false → s.cancel = false →
      let d := headerDigest s.header
      let cnt := s.hashCnt + 1
      let due := s.progInterval ≠ 0 ∧ cnt.toNat % s.progInterval.toNat = 0
      (d.toNat ≤ s.target.toNat → exec .attempt s = .next
        { s with
          digest := d, hashCnt := cnt, phase := .found, winner := true
          foundCnt := s.foundCnt + 1, irqStatus := s.irqStatus ||| 0b0001 }) ∧
      (s.target.toNat < d.toNat → exec .attempt s = .next
        { s with
          digest := d, hashCnt := cnt
          header :=
            { s.header with
              nonce := s.header.nonce + 1
              time := if s.header.nonce + 1 = 0 then s.header.time + 1 else s.header.time }
          progCnt := if due then cnt else s.progCnt
          progDigest := if due then d else s.progDigest
          irqStatus := if due then s.irqStatus ||| 0b0010 else s.irqStatus }))

/-- 43_pow_search.md R191: SEQ_CANCEL, when it is enabled, and that it ends the search. -/
def Obligations.SequentialCancelStops : Prop :=
  ∀ s : State,
    (Instr.seqCancel ∈ enabledSteps s ↔ s.phase = .searching ∧ s.multi = false ∧ s.cancel = true) ∧
    (s.phase = .searching → s.multi = false → s.cancel = true →
      exec .seqCancel s = .next { s with phase := .idle, cancel := false, irqStatus := s.irqStatus ||| 0b1000 })

/-- 44_multi_worker.md R216: the k-th candidate by its formula, and as what k applications of Advance reach. -/
def Obligations.CandidatesFollowAdvance : Prop :=
  ∀ (n0 t0 : Word) (k : Nat),
    (cand n0 t0 k).1.toNat = (n0.toNat + k) % 2 ^ 32 ∧
    (cand n0 t0 k).2.toNat = (t0.toNat + (n0.toNat + k) / 2 ^ 32) % 2 ^ 32 ∧
    cand n0 t0 k = advance^[k] (n0, t0)

/-- 44_multi_worker.md R224: distinct indices give distinct candidates. -/
def Obligations.CandidatesAreDistinct : Prop :=
  ∀ (n0 t0 : Word) (k k' : Nat), k < 2 ^ 64 → k' < 2 ^ 64 → cand n0 t0 k = cand n0 t0 k' → k = k'

/-- 43_pow_search.md R190: a sequential search left to itself tries cand(0), cand(1), ... and ends Found at the least index
whose digest meets the target, with that many attempts counted.
The empty agenda is the model's form of a silent host (log 1). -/
def Obligations.SequentialSearchFindsTheFirst : Prop :=
  ∀ (s : State) (j : Nat), s.phase = .searching → s.multi = false → s.cancel = false → s.agenda = [] →
    (∀ i, i < j → s.target < headerDigest (s.header.withCandidate (cand s.header.nonce s.header.time i))) →
    (∃ t, Host.Core.run Sys2Proof.core j s = .next t ∧ t.phase = .searching ∧
      t.header = s.header.withCandidate (cand s.header.nonce s.header.time j) ∧ t.target = s.target ∧
      t.hashCnt = s.hashCnt + BitVec.ofNat 64 j ∧ t.foundCnt = s.foundCnt) ∧
    (headerDigest (s.header.withCandidate (cand s.header.nonce s.header.time j)) ≤ s.target →
      ∃ t, Host.Core.run Sys2Proof.core (j + 1) s = .next t ∧ t.phase = .found ∧ t.winner = true ∧
        t.header = s.header.withCandidate (cand s.header.nonce s.header.time j) ∧ t.digest = headerDigest t.header ∧
        t.hashCnt = s.hashCnt + BitVec.ofNat 64 (j + 1) ∧ t.foundCnt = s.foundCnt + 1 ∧ t.target = s.target)

/-! ### Search, multi mode -/

/-- 44_multi_worker.md R218: LANE_CLAIM, when it is enabled; it reads CLAIM and adds RANGE in one step, or sees CANCEL and
goes Off. -/
def Obligations.LaneClaimTakesARange : Prop :=
  ∀ (s : State) (i : Nat),
    (Instr.laneClaim i ∈ enabledSteps s ↔ s.phase = .searching ∧ s.multi = true ∧ s.lane i = .claim) ∧
    (s.phase = .searching → s.multi = true → s.lane i = .claim →
      (s.cancel = true → exec (.laneClaim i) s = .next { s with lanes := s.lanes.set i .off }) ∧
      (s.cancel = false → ∃ claim : U64, claim.toNat = (s.claim.toNat + s.range.toNat) % 2 ^ 64 ∧
        exec (.laneClaim i) s = .next { s with lanes := s.lanes.set i (.work s.claim 0), claim := claim }))

/-- 44_multi_worker.md R220: LANE_ATTEMPT, when it is enabled, the winning branch and the other, in which a later success is
discarded.
The progress test is that of its pseudocode, which differs from R192's prose where the count wraps to 0 (log 21). -/
def Obligations.LaneAttempt : Prop :=
  ∀ (s : State) (i : Nat),
    (Instr.laneAttempt i ∈ enabledSteps s ↔
      s.phase = .searching ∧ s.multi = true ∧ ∃ base idx, s.lane i = .work base idx) ∧
    ∀ (base : U64) (idx : Nat), s.phase = .searching → s.multi = true → s.lane i = .work base idx →
      let c := cand s.baseNonce s.baseTime ((base.toNat + idx) % 2 ^ 64)
      let h : Header := { s.header with nonce := c.1, time := c.2 }
      let d := headerDigest h
      let cnt := s.hashCnt + 1
      let due := s.progInterval ≠ 0 ∧ cnt.toNat % s.progInterval.toNat = 0
      (d.toNat ≤ s.target.toNat → s.winner = false → exec (.laneAttempt i) s = .next
        { s with
          hashCnt := cnt, winner := true, cancel := true, header := h, digest := d
          foundCnt := s.foundCnt + 1, irqStatus := s.irqStatus ||| 0b0001, lanes := s.lanes.set i .off }) ∧
      (s.target.toNat < d.toNat ∨ s.winner = true → exec (.laneAttempt i) s = .next
        { s with
          hashCnt := cnt
          progCnt := if due then cnt else s.progCnt
          progDigest := if due then d else s.progDigest
          irqStatus := if due then s.irqStatus ||| 0b0010 else s.irqStatus
          lanes := s.lanes.set i (if idx + 1 = s.range.toNat then .claim else .work base (idx + 1)) })

/-- 44_multi_worker.md R222: FINISH, when it is enabled (in states that meet the invariant, only once a STOP or a winner has
set CANCEL), and that it ends the search. -/
def Obligations.FinishEndsTheSearch : Prop :=
  ∀ s : State,
    (Instr.finish ∈ enabledSteps s ↔ s.phase = .searching ∧ s.multi = true ∧ ∀ l, l ∈ s.lanes → l = .off) ∧
    (s.Inv → Instr.finish ∈ enabledSteps s → s.cancel = true) ∧
    (s.phase = .searching → s.multi = true → (∀ l, l ∈ s.lanes → l = .off) →
      (s.winner = true → exec .finish s = .next { s with phase := .found, cancel := false }) ∧
      (s.winner = false → exec .finish s = .next
        { s with phase := .idle, cancel := false, irqStatus := s.irqStatus ||| 0b1000 }))

/-- 44_multi_worker.md R221, R222: with CANCEL set and the host silent, the search ends within the lanes' remaining steps
and one more, whatever the schedule.
The empty agenda and the free scheduler are the model's choice (log 1, log 2). -/
def Obligations.CancelledSearchEndsInBoundedSteps : Prop :=
  ∀ s : State, s.Inv → s.phase = .searching → s.cancel = true → s.agenda = [] →
    ∃ (n : Nat) (t : State), n ≤ s.drain + 1 ∧ Host.Core.run Sys2Proof.core n s = .next t ∧ t.searchEnded

/-- 00_scope.md R11, 44_multi_worker.md R221, R222: in every weakly fair run, whatever the host does in between, a cancelled
search ends.
Fairness is a hypothesis on runs (log 10), the agenda the model's choice (log 1). -/
def Obligations.FairRunsEndACancelledSearch : Prop :=
  ∀ r : Nat → State, IsRun r → WeaklyFair r → (r 0).Inv → (r 0).phase = .searching → (r 0).cancel = true →
    ∃ n, (r n).searchEnded
end

