-- ==== Sys2Proof/Laws/Codec.lean ====
section
/-! SUPPORT. Byte order and word views: lengths, the words of a 256-bit value, `int_le` as the inverse of `le32` and `le256`, and the one equation of the header digest. -/

namespace Sys2Proof.Machine

theorem headerDigest_eq (h : Header) : headerDigest h = hash256 (serialize h) := by
  unfold headerDigest
  rfl

@[simp] theorem length_le32 (v : Word) : (le32 v).length = 4 := rfl

@[simp] theorem length_be32 (v : Word) : (be32 v).length = 4 := rfl

@[simp] theorem length_le256 (v : U256) : (le256 v).length = 32 := by simp [le256]

@[simp] theorem length_be64 (v : U64) : (be64 v).length = 8 := by simp [be64]

@[simp] theorem length_serialize (h : Header) : (serialize h).length = 80 := by simp [serialize]

@[simp] theorem length_words (s : HashState) : s.words.length = 8 := rfl

@[simp] theorem length_sha256 (m : List Byte) : (sha256 m).length = 32 := by
  simp [sha256, HashState.words]

/-- The bits of a value with one word replaced. -/
theorem getLsbD_setWordOf (v : U256) (j : Nat) (w : Word) (k : Nat) (hk : k < 256) :
    (setWordOf v j w).getLsbD k = if 32 * j ≤ k ∧ k < 32 * j + 32 then w.getLsbD (k - 32 * j) else v.getLsbD k := by
  simp only [setWordOf, BitVec.getLsbD_or, BitVec.getLsbD_and, BitVec.getLsbD_not, BitVec.getLsbD_shiftLeft, hk,
    BitVec.getLsbD_setWidth, BitVec.getLsbD_allOnes, decide_true, Bool.true_and]
  by_cases h1 : k < 32 * j
  · have : ¬(32 * j ≤ k ∧ k < 32 * j + 32) := by omega
    simp [h1, this]
  · have hs : k - 32 * j < 256 := by omega
    by_cases h2 : k < 32 * j + 32
    · have h3 : 32 * j ≤ k ∧ k < 32 * j + 32 := by omega
      have h4 : k - 32 * j < 32 := by omega
      simp [h1, hs, h3, h4]
    · have h3 : ¬(32 * j ≤ k ∧ k < 32 * j + 32) := by omega
      have h4 : ¬k - 32 * j < 32 := by omega
      have h5 : w.getLsbD (k - 32 * j) = false := BitVec.getLsbD_of_ge _ _ (by omega)
      simp [h1, h3, h4, h5]

/-- `setWordOf` changes the word it names. -/
theorem wordOf_setWordOf_same (v : U256) (j : Nat) (hj : j < 8) (w : Word) : wordOf (setWordOf v j w) j = w := by
  apply BitVec.eq_of_getLsbD_eq
  intro k hk
  have h1 : 32 * j ≤ 32 * j + k ∧ 32 * j + k < 32 * j + 32 := by omega
  simp only [wordOf, BitVec.getLsbD_extractLsb', hk, decide_true, Bool.true_and]
  rw [getLsbD_setWordOf v j w _ (by omega), if_pos h1, Nat.add_sub_cancel_left]

/-- `setWordOf` changes no other word (45_host_access.md R242). -/
theorem wordOf_setWordOf_ne (v : U256) (i j : Nat) (hi : i < 8) (hij : i ≠ j) (w : Word) :
    wordOf (setWordOf v j w) i = wordOf v i := by
  apply BitVec.eq_of_getLsbD_eq
  intro k hk
  have h1 : ¬(32 * j ≤ 32 * i + k ∧ 32 * i + k < 32 * j + 32) := by omega
  simp only [wordOf, BitVec.getLsbD_extractLsb', hk, decide_true, Bool.true_and]
  rw [getLsbD_setWordOf v j w _ (by omega), if_neg h1]

/-- Word `j` of a value as a number (10_state.md R21). -/
theorem toNat_wordOf (v : U256) (j : Nat) : (wordOf v j).toNat = v.toNat / 2 ^ (32 * j) % 2 ^ 32 := by
  simp [wordOf, BitVec.extractLsb'_toNat, Nat.shiftRight_eq_div_pow]

/-- The `n` low bytes of a number, least significant first. -/
def lowBytes : Nat → Nat → List Byte
  | 0, _ => []
  | n + 1, v => BitVec.ofNat 8 v :: lowBytes n (v / 256)

theorem intLe_lowBytes (n v : Nat) : intLe (lowBytes n v) = v % 256 ^ n := by
  induction n generalizing v with
  | zero => simp [lowBytes, intLe, Nat.mod_one]
  | succ n ih =>
    rw [lowBytes, intLe, ih, BitVec.toNat_ofNat, show (2 : Nat) ^ 8 = 256 from rfl, Nat.pow_succ', Nat.mod_mul]

theorem intLe_lt (bs : List Byte) : intLe bs < 256 ^ bs.length := by
  induction bs with
  | nil => simp [intLe]
  | cons b bs ih =>
    have := b.isLt
    rw [intLe, List.length_cons, Nat.pow_succ']
    omega

theorem lowBytes_intLe (bs : List Byte) : lowBytes bs.length (intLe bs) = bs := by
  induction bs with
  | nil => rfl
  | cons b bs ih =>
    have hb := b.isLt
    have h1 : (b.toNat + 256 * intLe bs) / 256 = intLe bs := by omega
    have h2 : BitVec.ofNat 8 (b.toNat + 256 * intLe bs) = b := by
      apply BitVec.eq_of_toNat_eq
      rw [BitVec.toNat_ofNat]
      omega
    rw [List.length_cons, intLe, lowBytes, h1, h2, ih]

theorem lowBytes_map (n v : Nat) : lowBytes n v = (List.range n).map fun i => BitVec.ofNat 8 (v / 256 ^ i) := by
  induction n generalizing v with
  | zero => rfl
  | succ n ih =>
    rw [lowBytes, ih, List.range_succ_eq_map, List.map_cons, List.map_map]
    simp [Function.comp_def, Nat.pow_succ', Nat.div_div_eq_div_mul]

theorem le32_eq_lowBytes (v : Word) : le32 v = lowBytes 4 v.toNat := by
  have h : le32 v = (List.range 4).map fun i => v.extractLsb' (8 * i) 8 := rfl
  rw [lowBytes_map, h]
  apply List.map_congr_left
  intro i _
  apply BitVec.eq_of_toNat_eq
  simp [BitVec.extractLsb'_toNat, Nat.shiftRight_eq_div_pow, Nat.pow_mul]

theorem le256_eq_lowBytes (v : U256) : le256 v = lowBytes 32 v.toNat := by
  rw [lowBytes_map, le256]
  apply List.map_congr_left
  intro i _
  apply BitVec.eq_of_toNat_eq
  simp [BitVec.extractLsb'_toNat, Nat.shiftRight_eq_div_pow, Nat.pow_mul]

theorem le32_ofNat_intLe (bs : List Byte) (h : bs.length = 4) : le32 (BitVec.ofNat 32 (intLe bs)) = bs := by
  have hlt := intLe_lt bs
  rw [le32_eq_lowBytes, BitVec.toNat_ofNat, Nat.mod_eq_of_lt (by rw [h] at hlt; exact hlt)]
  rw [← h]
  exact lowBytes_intLe bs

theorem le256_ofNat_intLe (bs : List Byte) (h : bs.length = 32) : le256 (BitVec.ofNat 256 (intLe bs)) = bs := by
  have hlt := intLe_lt bs
  rw [le256_eq_lowBytes, BitVec.toNat_ofNat, Nat.mod_eq_of_lt (by rw [h] at hlt; exact hlt)]
  rw [← h]
  exact lowBytes_intLe bs

theorem ofNat_intLe_le32 (v : Word) : BitVec.ofNat 32 (intLe (le32 v)) = v := by
  apply BitVec.eq_of_toNat_eq
  rw [le32_eq_lowBytes, intLe_lowBytes, BitVec.toNat_ofNat]
  have := v.isLt
  omega

theorem ofNat_intLe_le256 (v : U256) : BitVec.ofNat 256 (intLe (le256 v)) = v := by
  apply BitVec.eq_of_toNat_eq
  rw [le256_eq_lowBytes, intLe_lowBytes, BitVec.toNat_ofNat]
  have := v.isLt
  omega

end Sys2Proof.Machine
end

