-- ==== Sys2Proof/Laws/State.lean ====
section
/-! SUPPORT. One lemma per field per named update of the state, so that no later proof unfolds a record update. -/

namespace Sys2Proof.Machine

variable (s : State)

@[simp] theorem State.setEvent_header (ev : BitVec 4) : (s.setEvent ev).header = s.header := rfl
@[simp] theorem State.setEvent_limit (ev : BitVec 4) : (s.setEvent ev).limit = s.limit := rfl
@[simp] theorem State.setEvent_target (ev : BitVec 4) : (s.setEvent ev).target = s.target := rfl
@[simp] theorem State.setEvent_digest (ev : BitVec 4) : (s.setEvent ev).digest = s.digest := rfl
@[simp] theorem State.setEvent_hashCnt (ev : BitVec 4) : (s.setEvent ev).hashCnt = s.hashCnt := rfl
@[simp] theorem State.setEvent_foundCnt (ev : BitVec 4) : (s.setEvent ev).foundCnt = s.foundCnt := rfl
@[simp] theorem State.setEvent_progInterval (ev : BitVec 4) : (s.setEvent ev).progInterval = s.progInterval := rfl
@[simp] theorem State.setEvent_clamp (ev : BitVec 4) : (s.setEvent ev).clamp = s.clamp := rfl
@[simp] theorem State.setEvent_multi (ev : BitVec 4) : (s.setEvent ev).multi = s.multi := rfl
@[simp] theorem State.setEvent_phase (ev : BitVec 4) : (s.setEvent ev).phase = s.phase := rfl
@[simp] theorem State.setEvent_cancel (ev : BitVec 4) : (s.setEvent ev).cancel = s.cancel := rfl
@[simp] theorem State.setEvent_winner (ev : BitVec 4) : (s.setEvent ev).winner = s.winner := rfl
@[simp] theorem State.setEvent_cmp (ev : BitVec 4) : (s.setEvent ev).cmp = s.cmp := rfl
@[simp] theorem State.setEvent_tflags (ev : BitVec 4) : (s.setEvent ev).tflags = s.tflags := rfl
@[simp] theorem State.setEvent_err (ev : BitVec 4) : (s.setEvent ev).err = s.err := rfl
@[simp] theorem State.setEvent_irqStatus (ev : BitVec 4) : (s.setEvent ev).irqStatus = s.irqStatus ||| ev := rfl
@[simp] theorem State.setEvent_irqEnable (ev : BitVec 4) : (s.setEvent ev).irqEnable = s.irqEnable := rfl
@[simp] theorem State.setEvent_progCnt (ev : BitVec 4) : (s.setEvent ev).progCnt = s.progCnt := rfl
@[simp] theorem State.setEvent_progDigest (ev : BitVec 4) : (s.setEvent ev).progDigest = s.progDigest := rfl
@[simp] theorem State.setEvent_claim (ev : BitVec 4) : (s.setEvent ev).claim = s.claim := rfl
@[simp] theorem State.setEvent_range (ev : BitVec 4) : (s.setEvent ev).range = s.range := rfl
@[simp] theorem State.setEvent_nwork (ev : BitVec 4) : (s.setEvent ev).nwork = s.nwork := rfl
@[simp] theorem State.setEvent_nlanes (ev : BitVec 4) : (s.setEvent ev).nlanes = s.nlanes := rfl
@[simp] theorem State.setEvent_lanes (ev : BitVec 4) : (s.setEvent ev).lanes = s.lanes := rfl
@[simp] theorem State.setEvent_baseNonce (ev : BitVec 4) : (s.setEvent ev).baseNonce = s.baseNonce := rfl
@[simp] theorem State.setEvent_baseTime (ev : BitVec 4) : (s.setEvent ev).baseTime = s.baseTime := rfl
@[simp] theorem State.setEvent_rdata (ev : BitVec 4) : (s.setEvent ev).rdata = s.rdata := rfl
@[simp] theorem State.setEvent_agenda (ev : BitVec 4) : (s.setEvent ev).agenda = s.agenda := rfl
@[simp] theorem State.setEvent_ticks (ev : BitVec 4) : (s.setEvent ev).ticks = s.ticks := rfl

@[simp] theorem State.clearEvents_header (ones : BitVec 4) : (s.clearEvents ones).header = s.header := rfl
@[simp] theorem State.clearEvents_limit (ones : BitVec 4) : (s.clearEvents ones).limit = s.limit := rfl
@[simp] theorem State.clearEvents_target (ones : BitVec 4) : (s.clearEvents ones).target = s.target := rfl
@[simp] theorem State.clearEvents_digest (ones : BitVec 4) : (s.clearEvents ones).digest = s.digest := rfl
@[simp] theorem State.clearEvents_hashCnt (ones : BitVec 4) : (s.clearEvents ones).hashCnt = s.hashCnt := rfl
@[simp] theorem State.clearEvents_foundCnt (ones : BitVec 4) : (s.clearEvents ones).foundCnt = s.foundCnt := rfl
@[simp] theorem State.clearEvents_progInterval (ones : BitVec 4) : (s.clearEvents ones).progInterval = s.progInterval := rfl
@[simp] theorem State.clearEvents_clamp (ones : BitVec 4) : (s.clearEvents ones).clamp = s.clamp := rfl
@[simp] theorem State.clearEvents_multi (ones : BitVec 4) : (s.clearEvents ones).multi = s.multi := rfl
@[simp] theorem State.clearEvents_phase (ones : BitVec 4) : (s.clearEvents ones).phase = s.phase := rfl
@[simp] theorem State.clearEvents_cancel (ones : BitVec 4) : (s.clearEvents ones).cancel = s.cancel := rfl
@[simp] theorem State.clearEvents_winner (ones : BitVec 4) : (s.clearEvents ones).winner = s.winner := rfl
@[simp] theorem State.clearEvents_cmp (ones : BitVec 4) : (s.clearEvents ones).cmp = s.cmp := rfl
@[simp] theorem State.clearEvents_tflags (ones : BitVec 4) : (s.clearEvents ones).tflags = s.tflags := rfl
@[simp] theorem State.clearEvents_err (ones : BitVec 4) : (s.clearEvents ones).err = s.err := rfl
@[simp] theorem State.clearEvents_irqStatus (ones : BitVec 4) : (s.clearEvents ones).irqStatus = s.irqStatus &&& ~~~ones := rfl
@[simp] theorem State.clearEvents_irqEnable (ones : BitVec 4) : (s.clearEvents ones).irqEnable = s.irqEnable := rfl
@[simp] theorem State.clearEvents_progCnt (ones : BitVec 4) : (s.clearEvents ones).progCnt = s.progCnt := rfl
@[simp] theorem State.clearEvents_progDigest (ones : BitVec 4) : (s.clearEvents ones).progDigest = s.progDigest := rfl
@[simp] theorem State.clearEvents_claim (ones : BitVec 4) : (s.clearEvents ones).claim = s.claim := rfl
@[simp] theorem State.clearEvents_range (ones : BitVec 4) : (s.clearEvents ones).range = s.range := rfl
@[simp] theorem State.clearEvents_nwork (ones : BitVec 4) : (s.clearEvents ones).nwork = s.nwork := rfl
@[simp] theorem State.clearEvents_nlanes (ones : BitVec 4) : (s.clearEvents ones).nlanes = s.nlanes := rfl
@[simp] theorem State.clearEvents_lanes (ones : BitVec 4) : (s.clearEvents ones).lanes = s.lanes := rfl
@[simp] theorem State.clearEvents_baseNonce (ones : BitVec 4) : (s.clearEvents ones).baseNonce = s.baseNonce := rfl
@[simp] theorem State.clearEvents_baseTime (ones : BitVec 4) : (s.clearEvents ones).baseTime = s.baseTime := rfl
@[simp] theorem State.clearEvents_rdata (ones : BitVec 4) : (s.clearEvents ones).rdata = s.rdata := rfl
@[simp] theorem State.clearEvents_agenda (ones : BitVec 4) : (s.clearEvents ones).agenda = s.agenda := rfl
@[simp] theorem State.clearEvents_ticks (ones : BitVec 4) : (s.clearEvents ones).ticks = s.ticks := rfl

@[simp] theorem State.raise_header (code : ErrCode) (info : BitVec 24) : (s.raise code info).header = s.header := rfl
@[simp] theorem State.raise_limit (code : ErrCode) (info : BitVec 24) : (s.raise code info).limit = s.limit := rfl
@[simp] theorem State.raise_target (code : ErrCode) (info : BitVec 24) : (s.raise code info).target = s.target := rfl
@[simp] theorem State.raise_digest (code : ErrCode) (info : BitVec 24) : (s.raise code info).digest = s.digest := rfl
@[simp] theorem State.raise_hashCnt (code : ErrCode) (info : BitVec 24) : (s.raise code info).hashCnt = s.hashCnt := rfl
@[simp] theorem State.raise_foundCnt (code : ErrCode) (info : BitVec 24) : (s.raise code info).foundCnt = s.foundCnt := rfl
@[simp] theorem State.raise_progInterval (code : ErrCode) (info : BitVec 24) : (s.raise code info).progInterval = s.progInterval := rfl
@[simp] theorem State.raise_clamp (code : ErrCode) (info : BitVec 24) : (s.raise code info).clamp = s.clamp := rfl
@[simp] theorem State.raise_multi (code : ErrCode) (info : BitVec 24) : (s.raise code info).multi = s.multi := rfl
@[simp] theorem State.raise_phase (code : ErrCode) (info : BitVec 24) : (s.raise code info).phase = s.phase := rfl
@[simp] theorem State.raise_cancel (code : ErrCode) (info : BitVec 24) : (s.raise code info).cancel = s.cancel := rfl
@[simp] theorem State.raise_winner (code : ErrCode) (info : BitVec 24) : (s.raise code info).winner = s.winner := rfl
@[simp] theorem State.raise_cmp (code : ErrCode) (info : BitVec 24) : (s.raise code info).cmp = s.cmp := rfl
@[simp] theorem State.raise_tflags (code : ErrCode) (info : BitVec 24) : (s.raise code info).tflags = s.tflags := rfl
@[simp] theorem State.raise_err (code : ErrCode) (info : BitVec 24) : (s.raise code info).err = keepFirst s.err { code := code, info := info } := rfl
@[simp] theorem State.raise_irqStatus (code : ErrCode) (info : BitVec 24) : (s.raise code info).irqStatus = s.irqStatus ||| evError := rfl
@[simp] theorem State.raise_irqEnable (code : ErrCode) (info : BitVec 24) : (s.raise code info).irqEnable = s.irqEnable := rfl
@[simp] theorem State.raise_progCnt (code : ErrCode) (info : BitVec 24) : (s.raise code info).progCnt = s.progCnt := rfl
@[simp] theorem State.raise_progDigest (code : ErrCode) (info : BitVec 24) : (s.raise code info).progDigest = s.progDigest := rfl
@[simp] theorem State.raise_claim (code : ErrCode) (info : BitVec 24) : (s.raise code info).claim = s.claim := rfl
@[simp] theorem State.raise_range (code : ErrCode) (info : BitVec 24) : (s.raise code info).range = s.range := rfl
@[simp] theorem State.raise_nwork (code : ErrCode) (info : BitVec 24) : (s.raise code info).nwork = s.nwork := rfl
@[simp] theorem State.raise_nlanes (code : ErrCode) (info : BitVec 24) : (s.raise code info).nlanes = s.nlanes := rfl
@[simp] theorem State.raise_lanes (code : ErrCode) (info : BitVec 24) : (s.raise code info).lanes = s.lanes := rfl
@[simp] theorem State.raise_baseNonce (code : ErrCode) (info : BitVec 24) : (s.raise code info).baseNonce = s.baseNonce := rfl
@[simp] theorem State.raise_baseTime (code : ErrCode) (info : BitVec 24) : (s.raise code info).baseTime = s.baseTime := rfl
@[simp] theorem State.raise_rdata (code : ErrCode) (info : BitVec 24) : (s.raise code info).rdata = s.rdata := rfl
@[simp] theorem State.raise_agenda (code : ErrCode) (info : BitVec 24) : (s.raise code info).agenda = s.agenda := rfl
@[simp] theorem State.raise_ticks (code : ErrCode) (info : BitVec 24) : (s.raise code info).ticks = s.ticks := rfl

@[simp] theorem State.clearErr_header : (s.clearErr).header = s.header := rfl
@[simp] theorem State.clearErr_limit : (s.clearErr).limit = s.limit := rfl
@[simp] theorem State.clearErr_target : (s.clearErr).target = s.target := rfl
@[simp] theorem State.clearErr_digest : (s.clearErr).digest = s.digest := rfl
@[simp] theorem State.clearErr_hashCnt : (s.clearErr).hashCnt = s.hashCnt := rfl
@[simp] theorem State.clearErr_foundCnt : (s.clearErr).foundCnt = s.foundCnt := rfl
@[simp] theorem State.clearErr_progInterval : (s.clearErr).progInterval = s.progInterval := rfl
@[simp] theorem State.clearErr_clamp : (s.clearErr).clamp = s.clamp := rfl
@[simp] theorem State.clearErr_multi : (s.clearErr).multi = s.multi := rfl
@[simp] theorem State.clearErr_phase : (s.clearErr).phase = s.phase := rfl
@[simp] theorem State.clearErr_cancel : (s.clearErr).cancel = s.cancel := rfl
@[simp] theorem State.clearErr_winner : (s.clearErr).winner = s.winner := rfl
@[simp] theorem State.clearErr_cmp : (s.clearErr).cmp = s.cmp := rfl
@[simp] theorem State.clearErr_tflags : (s.clearErr).tflags = s.tflags := rfl
@[simp] theorem State.clearErr_err : (s.clearErr).err = none := rfl
@[simp] theorem State.clearErr_irqStatus : (s.clearErr).irqStatus = s.irqStatus := rfl
@[simp] theorem State.clearErr_irqEnable : (s.clearErr).irqEnable = s.irqEnable := rfl
@[simp] theorem State.clearErr_progCnt : (s.clearErr).progCnt = s.progCnt := rfl
@[simp] theorem State.clearErr_progDigest : (s.clearErr).progDigest = s.progDigest := rfl
@[simp] theorem State.clearErr_claim : (s.clearErr).claim = s.claim := rfl
@[simp] theorem State.clearErr_range : (s.clearErr).range = s.range := rfl
@[simp] theorem State.clearErr_nwork : (s.clearErr).nwork = s.nwork := rfl
@[simp] theorem State.clearErr_nlanes : (s.clearErr).nlanes = s.nlanes := rfl
@[simp] theorem State.clearErr_lanes : (s.clearErr).lanes = s.lanes := rfl
@[simp] theorem State.clearErr_baseNonce : (s.clearErr).baseNonce = s.baseNonce := rfl
@[simp] theorem State.clearErr_baseTime : (s.clearErr).baseTime = s.baseTime := rfl
@[simp] theorem State.clearErr_rdata : (s.clearErr).rdata = s.rdata := rfl
@[simp] theorem State.clearErr_agenda : (s.clearErr).agenda = s.agenda := rfl
@[simp] theorem State.clearErr_ticks : (s.clearErr).ticks = s.ticks := rfl

@[simp] theorem State.latchWinner_header : (s.latchWinner).header = s.header := rfl
@[simp] theorem State.latchWinner_limit : (s.latchWinner).limit = s.limit := rfl
@[simp] theorem State.latchWinner_target : (s.latchWinner).target = s.target := rfl
@[simp] theorem State.latchWinner_digest : (s.latchWinner).digest = s.digest := rfl
@[simp] theorem State.latchWinner_hashCnt : (s.latchWinner).hashCnt = s.hashCnt := rfl
@[simp] theorem State.latchWinner_foundCnt : (s.latchWinner).foundCnt = s.foundCnt + 1 := rfl
@[simp] theorem State.latchWinner_progInterval : (s.latchWinner).progInterval = s.progInterval := rfl
@[simp] theorem State.latchWinner_clamp : (s.latchWinner).clamp = s.clamp := rfl
@[simp] theorem State.latchWinner_multi : (s.latchWinner).multi = s.multi := rfl
@[simp] theorem State.latchWinner_phase : (s.latchWinner).phase = s.phase := rfl
@[simp] theorem State.latchWinner_cancel : (s.latchWinner).cancel = s.cancel := rfl
@[simp] theorem State.latchWinner_winner : (s.latchWinner).winner = true := rfl
@[simp] theorem State.latchWinner_cmp : (s.latchWinner).cmp = s.cmp := rfl
@[simp] theorem State.latchWinner_tflags : (s.latchWinner).tflags = s.tflags := rfl
@[simp] theorem State.latchWinner_err : (s.latchWinner).err = s.err := rfl
@[simp] theorem State.latchWinner_irqStatus : (s.latchWinner).irqStatus = s.irqStatus ||| evFound := rfl
@[simp] theorem State.latchWinner_irqEnable : (s.latchWinner).irqEnable = s.irqEnable := rfl
@[simp] theorem State.latchWinner_progCnt : (s.latchWinner).progCnt = s.progCnt := rfl
@[simp] theorem State.latchWinner_progDigest : (s.latchWinner).progDigest = s.progDigest := rfl
@[simp] theorem State.latchWinner_claim : (s.latchWinner).claim = s.claim := rfl
@[simp] theorem State.latchWinner_range : (s.latchWinner).range = s.range := rfl
@[simp] theorem State.latchWinner_nwork : (s.latchWinner).nwork = s.nwork := rfl
@[simp] theorem State.latchWinner_nlanes : (s.latchWinner).nlanes = s.nlanes := rfl
@[simp] theorem State.latchWinner_lanes : (s.latchWinner).lanes = s.lanes := rfl
@[simp] theorem State.latchWinner_baseNonce : (s.latchWinner).baseNonce = s.baseNonce := rfl
@[simp] theorem State.latchWinner_baseTime : (s.latchWinner).baseTime = s.baseTime := rfl
@[simp] theorem State.latchWinner_rdata : (s.latchWinner).rdata = s.rdata := rfl
@[simp] theorem State.latchWinner_agenda : (s.latchWinner).agenda = s.agenda := rfl
@[simp] theorem State.latchWinner_ticks : (s.latchWinner).ticks = s.ticks := rfl

@[simp] theorem State.setLane_header (i : Nat) (l : LaneState) : (s.setLane i l).header = s.header := rfl
@[simp] theorem State.setLane_limit (i : Nat) (l : LaneState) : (s.setLane i l).limit = s.limit := rfl
@[simp] theorem State.setLane_target (i : Nat) (l : LaneState) : (s.setLane i l).target = s.target := rfl
@[simp] theorem State.setLane_digest (i : Nat) (l : LaneState) : (s.setLane i l).digest = s.digest := rfl
@[simp] theorem State.setLane_hashCnt (i : Nat) (l : LaneState) : (s.setLane i l).hashCnt = s.hashCnt := rfl
@[simp] theorem State.setLane_foundCnt (i : Nat) (l : LaneState) : (s.setLane i l).foundCnt = s.foundCnt := rfl
@[simp] theorem State.setLane_progInterval (i : Nat) (l : LaneState) : (s.setLane i l).progInterval = s.progInterval := rfl
@[simp] theorem State.setLane_clamp (i : Nat) (l : LaneState) : (s.setLane i l).clamp = s.clamp := rfl
@[simp] theorem State.setLane_multi (i : Nat) (l : LaneState) : (s.setLane i l).multi = s.multi := rfl
@[simp] theorem State.setLane_phase (i : Nat) (l : LaneState) : (s.setLane i l).phase = s.phase := rfl
@[simp] theorem State.setLane_cancel (i : Nat) (l : LaneState) : (s.setLane i l).cancel = s.cancel := rfl
@[simp] theorem State.setLane_winner (i : Nat) (l : LaneState) : (s.setLane i l).winner = s.winner := rfl
@[simp] theorem State.setLane_cmp (i : Nat) (l : LaneState) : (s.setLane i l).cmp = s.cmp := rfl
@[simp] theorem State.setLane_tflags (i : Nat) (l : LaneState) : (s.setLane i l).tflags = s.tflags := rfl
@[simp] theorem State.setLane_err (i : Nat) (l : LaneState) : (s.setLane i l).err = s.err := rfl
@[simp] theorem State.setLane_irqStatus (i : Nat) (l : LaneState) : (s.setLane i l).irqStatus = s.irqStatus := rfl
@[simp] theorem State.setLane_irqEnable (i : Nat) (l : LaneState) : (s.setLane i l).irqEnable = s.irqEnable := rfl
@[simp] theorem State.setLane_progCnt (i : Nat) (l : LaneState) : (s.setLane i l).progCnt = s.progCnt := rfl
@[simp] theorem State.setLane_progDigest (i : Nat) (l : LaneState) : (s.setLane i l).progDigest = s.progDigest := rfl
@[simp] theorem State.setLane_claim (i : Nat) (l : LaneState) : (s.setLane i l).claim = s.claim := rfl
@[simp] theorem State.setLane_range (i : Nat) (l : LaneState) : (s.setLane i l).range = s.range := rfl
@[simp] theorem State.setLane_nwork (i : Nat) (l : LaneState) : (s.setLane i l).nwork = s.nwork := rfl
@[simp] theorem State.setLane_nlanes (i : Nat) (l : LaneState) : (s.setLane i l).nlanes = s.nlanes := rfl
@[simp] theorem State.setLane_lanes (i : Nat) (l : LaneState) : (s.setLane i l).lanes = s.lanes.set i l := rfl
@[simp] theorem State.setLane_baseNonce (i : Nat) (l : LaneState) : (s.setLane i l).baseNonce = s.baseNonce := rfl
@[simp] theorem State.setLane_baseTime (i : Nat) (l : LaneState) : (s.setLane i l).baseTime = s.baseTime := rfl
@[simp] theorem State.setLane_rdata (i : Nat) (l : LaneState) : (s.setLane i l).rdata = s.rdata := rfl
@[simp] theorem State.setLane_agenda (i : Nat) (l : LaneState) : (s.setLane i l).agenda = s.agenda := rfl
@[simp] theorem State.setLane_ticks (i : Nat) (l : LaneState) : (s.setLane i l).ticks = s.ticks := rfl

@[simp] theorem State.latchTarget_header : (s.latchTarget).header = s.header := rfl
@[simp] theorem State.latchTarget_limit : (s.latchTarget).limit = s.limit := rfl
@[simp] theorem State.latchTarget_target : (s.latchTarget).target = s.effTarget.eff := rfl
@[simp] theorem State.latchTarget_digest : (s.latchTarget).digest = s.digest := rfl
@[simp] theorem State.latchTarget_hashCnt : (s.latchTarget).hashCnt = s.hashCnt := rfl
@[simp] theorem State.latchTarget_foundCnt : (s.latchTarget).foundCnt = s.foundCnt := rfl
@[simp] theorem State.latchTarget_progInterval : (s.latchTarget).progInterval = s.progInterval := rfl
@[simp] theorem State.latchTarget_clamp : (s.latchTarget).clamp = s.clamp := rfl
@[simp] theorem State.latchTarget_multi : (s.latchTarget).multi = s.multi := rfl
@[simp] theorem State.latchTarget_phase : (s.latchTarget).phase = s.phase := rfl
@[simp] theorem State.latchTarget_cancel : (s.latchTarget).cancel = s.cancel := rfl
@[simp] theorem State.latchTarget_winner : (s.latchTarget).winner = s.winner := rfl
@[simp] theorem State.latchTarget_cmp : (s.latchTarget).cmp = s.cmp := rfl
@[simp] theorem State.latchTarget_tflags : (s.latchTarget).tflags = s.effTarget.flags := rfl
@[simp] theorem State.latchTarget_err : (s.latchTarget).err = s.err := rfl
@[simp] theorem State.latchTarget_irqStatus : (s.latchTarget).irqStatus = s.irqStatus := rfl
@[simp] theorem State.latchTarget_irqEnable : (s.latchTarget).irqEnable = s.irqEnable := rfl
@[simp] theorem State.latchTarget_progCnt : (s.latchTarget).progCnt = s.progCnt := rfl
@[simp] theorem State.latchTarget_progDigest : (s.latchTarget).progDigest = s.progDigest := rfl
@[simp] theorem State.latchTarget_claim : (s.latchTarget).claim = s.claim := rfl
@[simp] theorem State.latchTarget_range : (s.latchTarget).range = s.range := rfl
@[simp] theorem State.latchTarget_nwork : (s.latchTarget).nwork = s.nwork := rfl
@[simp] theorem State.latchTarget_nlanes : (s.latchTarget).nlanes = s.nlanes := rfl
@[simp] theorem State.latchTarget_lanes : (s.latchTarget).lanes = s.lanes := rfl
@[simp] theorem State.latchTarget_baseNonce : (s.latchTarget).baseNonce = s.baseNonce := rfl
@[simp] theorem State.latchTarget_baseTime : (s.latchTarget).baseTime = s.baseTime := rfl
@[simp] theorem State.latchTarget_rdata : (s.latchTarget).rdata = s.rdata := rfl
@[simp] theorem State.latchTarget_agenda : (s.latchTarget).agenda = s.agenda := rfl
@[simp] theorem State.latchTarget_ticks : (s.latchTarget).ticks = s.ticks := rfl

@[simp] theorem State.startSearch_header : (s.startSearch).header = s.header := rfl
@[simp] theorem State.startSearch_limit : (s.startSearch).limit = s.limit := rfl
@[simp] theorem State.startSearch_target : (s.startSearch).target = s.effTarget.eff := rfl
@[simp] theorem State.startSearch_digest : (s.startSearch).digest = s.digest := rfl
@[simp] theorem State.startSearch_hashCnt : (s.startSearch).hashCnt = 0 := rfl
@[simp] theorem State.startSearch_foundCnt : (s.startSearch).foundCnt = s.foundCnt := rfl
@[simp] theorem State.startSearch_progInterval : (s.startSearch).progInterval = s.progInterval := rfl
@[simp] theorem State.startSearch_clamp : (s.startSearch).clamp = s.clamp := rfl
@[simp] theorem State.startSearch_multi : (s.startSearch).multi = s.multi := rfl
@[simp] theorem State.startSearch_phase : (s.startSearch).phase = .searching := rfl
@[simp] theorem State.startSearch_cancel : (s.startSearch).cancel = false := rfl
@[simp] theorem State.startSearch_winner : (s.startSearch).winner = false := rfl
@[simp] theorem State.startSearch_cmp : (s.startSearch).cmp = s.cmp := rfl
@[simp] theorem State.startSearch_tflags : (s.startSearch).tflags = s.effTarget.flags := rfl
@[simp] theorem State.startSearch_err : (s.startSearch).err = s.err := rfl
@[simp] theorem State.startSearch_irqStatus : (s.startSearch).irqStatus = s.irqStatus := rfl
@[simp] theorem State.startSearch_irqEnable : (s.startSearch).irqEnable = s.irqEnable := rfl
@[simp] theorem State.startSearch_progCnt : (s.startSearch).progCnt = s.progCnt := rfl
@[simp] theorem State.startSearch_progDigest : (s.startSearch).progDigest = s.progDigest := rfl
@[simp] theorem State.startSearch_claim : (s.startSearch).claim = 0 := rfl
@[simp] theorem State.startSearch_range : (s.startSearch).range = s.range := rfl
@[simp] theorem State.startSearch_nwork : (s.startSearch).nwork = s.nwork := rfl
@[simp] theorem State.startSearch_nlanes : (s.startSearch).nlanes = s.nlanes := rfl
@[simp] theorem State.startSearch_lanes : (s.startSearch).lanes = s.lanes := rfl
@[simp] theorem State.startSearch_baseNonce : (s.startSearch).baseNonce = s.baseNonce := rfl
@[simp] theorem State.startSearch_baseTime : (s.startSearch).baseTime = s.baseTime := rfl
@[simp] theorem State.startSearch_rdata : (s.startSearch).rdata = s.rdata := rfl
@[simp] theorem State.startSearch_agenda : (s.startSearch).agenda = s.agenda := rfl
@[simp] theorem State.startSearch_ticks : (s.startSearch).ticks = s.ticks := rfl

@[simp] theorem State.startWorkers_header : (s.startWorkers).header = s.header := rfl
@[simp] theorem State.startWorkers_limit : (s.startWorkers).limit = s.limit := rfl
@[simp] theorem State.startWorkers_target : (s.startWorkers).target = s.target := rfl
@[simp] theorem State.startWorkers_digest : (s.startWorkers).digest = s.digest := rfl
@[simp] theorem State.startWorkers_hashCnt : (s.startWorkers).hashCnt = s.hashCnt := rfl
@[simp] theorem State.startWorkers_foundCnt : (s.startWorkers).foundCnt = s.foundCnt := rfl
@[simp] theorem State.startWorkers_progInterval : (s.startWorkers).progInterval = s.progInterval := rfl
@[simp] theorem State.startWorkers_clamp : (s.startWorkers).clamp = s.clamp := rfl
@[simp] theorem State.startWorkers_multi : (s.startWorkers).multi = s.multi := rfl
@[simp] theorem State.startWorkers_phase : (s.startWorkers).phase = s.phase := rfl
@[simp] theorem State.startWorkers_cancel : (s.startWorkers).cancel = s.cancel := rfl
@[simp] theorem State.startWorkers_winner : (s.startWorkers).winner = s.winner := rfl
@[simp] theorem State.startWorkers_cmp : (s.startWorkers).cmp = s.cmp := rfl
@[simp] theorem State.startWorkers_tflags : (s.startWorkers).tflags = s.tflags := rfl
@[simp] theorem State.startWorkers_err : (s.startWorkers).err = s.err := rfl
@[simp] theorem State.startWorkers_irqStatus : (s.startWorkers).irqStatus = s.irqStatus := rfl
@[simp] theorem State.startWorkers_irqEnable : (s.startWorkers).irqEnable = s.irqEnable := rfl
@[simp] theorem State.startWorkers_progCnt : (s.startWorkers).progCnt = s.progCnt := rfl
@[simp] theorem State.startWorkers_progDigest : (s.startWorkers).progDigest = s.progDigest := rfl
@[simp] theorem State.startWorkers_claim : (s.startWorkers).claim = s.claim := rfl
@[simp] theorem State.startWorkers_range : (s.startWorkers).range = s.range := rfl
@[simp] theorem State.startWorkers_nwork : (s.startWorkers).nwork = s.nwork := rfl
@[simp] theorem State.startWorkers_nlanes : (s.startWorkers).nlanes = s.nlanes := rfl
@[simp] theorem State.startWorkers_lanes : (s.startWorkers).lanes = startLanes s.nlanes.toNat s.nwork.toNat := rfl
@[simp] theorem State.startWorkers_baseNonce : (s.startWorkers).baseNonce = s.header.nonce := rfl
@[simp] theorem State.startWorkers_baseTime : (s.startWorkers).baseTime = s.header.time := rfl
@[simp] theorem State.startWorkers_rdata : (s.startWorkers).rdata = s.rdata := rfl
@[simp] theorem State.startWorkers_agenda : (s.startWorkers).agenda = s.agenda := rfl
@[simp] theorem State.startWorkers_ticks : (s.startWorkers).ticks = s.ticks := rfl

@[simp] theorem State.attemptWins_header (d : U256) : (s.attemptWins d).header = s.header := rfl
@[simp] theorem State.attemptWins_limit (d : U256) : (s.attemptWins d).limit = s.limit := rfl
@[simp] theorem State.attemptWins_target (d : U256) : (s.attemptWins d).target = s.target := rfl
@[simp] theorem State.attemptWins_digest (d : U256) : (s.attemptWins d).digest = d := rfl
@[simp] theorem State.attemptWins_hashCnt (d : U256) : (s.attemptWins d).hashCnt = s.nextCount := rfl
@[simp] theorem State.attemptWins_foundCnt (d : U256) : (s.attemptWins d).foundCnt = s.foundCnt + 1 := rfl
@[simp] theorem State.attemptWins_progInterval (d : U256) : (s.attemptWins d).progInterval = s.progInterval := rfl
@[simp] theorem State.attemptWins_clamp (d : U256) : (s.attemptWins d).clamp = s.clamp := rfl
@[simp] theorem State.attemptWins_multi (d : U256) : (s.attemptWins d).multi = s.multi := rfl
@[simp] theorem State.attemptWins_phase (d : U256) : (s.attemptWins d).phase = .found := rfl
@[simp] theorem State.attemptWins_cancel (d : U256) : (s.attemptWins d).cancel = s.cancel := rfl
@[simp] theorem State.attemptWins_winner (d : U256) : (s.attemptWins d).winner = true := rfl
@[simp] theorem State.attemptWins_cmp (d : U256) : (s.attemptWins d).cmp = s.cmp := rfl
@[simp] theorem State.attemptWins_tflags (d : U256) : (s.attemptWins d).tflags = s.tflags := rfl
@[simp] theorem State.attemptWins_err (d : U256) : (s.attemptWins d).err = s.err := rfl
@[simp] theorem State.attemptWins_irqStatus (d : U256) : (s.attemptWins d).irqStatus = s.irqStatus ||| evFound := rfl
@[simp] theorem State.attemptWins_irqEnable (d : U256) : (s.attemptWins d).irqEnable = s.irqEnable := rfl
@[simp] theorem State.attemptWins_progCnt (d : U256) : (s.attemptWins d).progCnt = s.progCnt := rfl
@[simp] theorem State.attemptWins_progDigest (d : U256) : (s.attemptWins d).progDigest = s.progDigest := rfl
@[simp] theorem State.attemptWins_claim (d : U256) : (s.attemptWins d).claim = s.claim := rfl
@[simp] theorem State.attemptWins_range (d : U256) : (s.attemptWins d).range = s.range := rfl
@[simp] theorem State.attemptWins_nwork (d : U256) : (s.attemptWins d).nwork = s.nwork := rfl
@[simp] theorem State.attemptWins_nlanes (d : U256) : (s.attemptWins d).nlanes = s.nlanes := rfl
@[simp] theorem State.attemptWins_lanes (d : U256) : (s.attemptWins d).lanes = s.lanes := rfl
@[simp] theorem State.attemptWins_baseNonce (d : U256) : (s.attemptWins d).baseNonce = s.baseNonce := rfl
@[simp] theorem State.attemptWins_baseTime (d : U256) : (s.attemptWins d).baseTime = s.baseTime := rfl
@[simp] theorem State.attemptWins_rdata (d : U256) : (s.attemptWins d).rdata = s.rdata := rfl
@[simp] theorem State.attemptWins_agenda (d : U256) : (s.attemptWins d).agenda = s.agenda := rfl
@[simp] theorem State.attemptWins_ticks (d : U256) : (s.attemptWins d).ticks = s.ticks := rfl

@[simp] theorem State.laneWins_header (i : Nat) (h : Header) (d : U256) : (s.laneWins i h d).header = h := rfl
@[simp] theorem State.laneWins_limit (i : Nat) (h : Header) (d : U256) : (s.laneWins i h d).limit = s.limit := rfl
@[simp] theorem State.laneWins_target (i : Nat) (h : Header) (d : U256) : (s.laneWins i h d).target = s.target := rfl
@[simp] theorem State.laneWins_digest (i : Nat) (h : Header) (d : U256) : (s.laneWins i h d).digest = d := rfl
@[simp] theorem State.laneWins_hashCnt (i : Nat) (h : Header) (d : U256) : (s.laneWins i h d).hashCnt = s.nextCount := rfl
@[simp] theorem State.laneWins_foundCnt (i : Nat) (h : Header) (d : U256) : (s.laneWins i h d).foundCnt = s.foundCnt + 1 := rfl
@[simp] theorem State.laneWins_progInterval (i : Nat) (h : Header) (d : U256) : (s.laneWins i h d).progInterval = s.progInterval := rfl
@[simp] theorem State.laneWins_clamp (i : Nat) (h : Header) (d : U256) : (s.laneWins i h d).clamp = s.clamp := rfl
@[simp] theorem State.laneWins_multi (i : Nat) (h : Header) (d : U256) : (s.laneWins i h d).multi = s.multi := rfl
@[simp] theorem State.laneWins_phase (i : Nat) (h : Header) (d : U256) : (s.laneWins i h d).phase = s.phase := rfl
@[simp] theorem State.laneWins_cancel (i : Nat) (h : Header) (d : U256) : (s.laneWins i h d).cancel = true := rfl
@[simp] theorem State.laneWins_winner (i : Nat) (h : Header) (d : U256) : (s.laneWins i h d).winner = true := rfl
@[simp] theorem State.laneWins_cmp (i : Nat) (h : Header) (d : U256) : (s.laneWins i h d).cmp = s.cmp := rfl
@[simp] theorem State.laneWins_tflags (i : Nat) (h : Header) (d : U256) : (s.laneWins i h d).tflags = s.tflags := rfl
@[simp] theorem State.laneWins_err (i : Nat) (h : Header) (d : U256) : (s.laneWins i h d).err = s.err := rfl
@[simp] theorem State.laneWins_irqStatus (i : Nat) (h : Header) (d : U256) : (s.laneWins i h d).irqStatus = s.irqStatus ||| evFound := rfl
@[simp] theorem State.laneWins_irqEnable (i : Nat) (h : Header) (d : U256) : (s.laneWins i h d).irqEnable = s.irqEnable := rfl
@[simp] theorem State.laneWins_progCnt (i : Nat) (h : Header) (d : U256) : (s.laneWins i h d).progCnt = s.progCnt := rfl
@[simp] theorem State.laneWins_progDigest (i : Nat) (h : Header) (d : U256) : (s.laneWins i h d).progDigest = s.progDigest := rfl
@[simp] theorem State.laneWins_claim (i : Nat) (h : Header) (d : U256) : (s.laneWins i h d).claim = s.claim := rfl
@[simp] theorem State.laneWins_range (i : Nat) (h : Header) (d : U256) : (s.laneWins i h d).range = s.range := rfl
@[simp] theorem State.laneWins_nwork (i : Nat) (h : Header) (d : U256) : (s.laneWins i h d).nwork = s.nwork := rfl
@[simp] theorem State.laneWins_nlanes (i : Nat) (h : Header) (d : U256) : (s.laneWins i h d).nlanes = s.nlanes := rfl
@[simp] theorem State.laneWins_lanes (i : Nat) (h : Header) (d : U256) : (s.laneWins i h d).lanes = s.lanes.set i .off := rfl
@[simp] theorem State.laneWins_baseNonce (i : Nat) (h : Header) (d : U256) : (s.laneWins i h d).baseNonce = s.baseNonce := rfl
@[simp] theorem State.laneWins_baseTime (i : Nat) (h : Header) (d : U256) : (s.laneWins i h d).baseTime = s.baseTime := rfl
@[simp] theorem State.laneWins_rdata (i : Nat) (h : Header) (d : U256) : (s.laneWins i h d).rdata = s.rdata := rfl
@[simp] theorem State.laneWins_agenda (i : Nat) (h : Header) (d : U256) : (s.laneWins i h d).agenda = s.agenda := rfl
@[simp] theorem State.laneWins_ticks (i : Nat) (h : Header) (d : U256) : (s.laneWins i h d).ticks = s.ticks := rfl

@[simp] theorem State.noteProgress_header (cnt : U64) (d : U256) : (s.noteProgress cnt d).header = s.header := by
  unfold State.noteProgress
  split <;> rfl
@[simp] theorem State.noteProgress_limit (cnt : U64) (d : U256) : (s.noteProgress cnt d).limit = s.limit := by
  unfold State.noteProgress
  split <;> rfl
@[simp] theorem State.noteProgress_target (cnt : U64) (d : U256) : (s.noteProgress cnt d).target = s.target := by
  unfold State.noteProgress
  split <;> rfl
@[simp] theorem State.noteProgress_digest (cnt : U64) (d : U256) : (s.noteProgress cnt d).digest = s.digest := by
  unfold State.noteProgress
  split <;> rfl
@[simp] theorem State.noteProgress_hashCnt (cnt : U64) (d : U256) : (s.noteProgress cnt d).hashCnt = s.hashCnt := by
  unfold State.noteProgress
  split <;> rfl
@[simp] theorem State.noteProgress_foundCnt (cnt : U64) (d : U256) : (s.noteProgress cnt d).foundCnt = s.foundCnt := by
  unfold State.noteProgress
  split <;> rfl
@[simp] theorem State.noteProgress_progInterval (cnt : U64) (d : U256) : (s.noteProgress cnt d).progInterval = s.progInterval := by
  unfold State.noteProgress
  split <;> rfl
@[simp] theorem State.noteProgress_clamp (cnt : U64) (d : U256) : (s.noteProgress cnt d).clamp = s.clamp := by
  unfold State.noteProgress
  split <;> rfl
@[simp] theorem State.noteProgress_multi (cnt : U64) (d : U256) : (s.noteProgress cnt d).multi = s.multi := by
  unfold State.noteProgress
  split <;> rfl
@[simp] theorem State.noteProgress_phase (cnt : U64) (d : U256) : (s.noteProgress cnt d).phase = s.phase := by
  unfold State.noteProgress
  split <;> rfl
@[simp] theorem State.noteProgress_cancel (cnt : U64) (d : U256) : (s.noteProgress cnt d).cancel = s.cancel := by
  unfold State.noteProgress
  split <;> rfl
@[simp] theorem State.noteProgress_winner (cnt : U64) (d : U256) : (s.noteProgress cnt d).winner = s.winner := by
  unfold State.noteProgress
  split <;> rfl
@[simp] theorem State.noteProgress_cmp (cnt : U64) (d : U256) : (s.noteProgress cnt d).cmp = s.cmp := by
  unfold State.noteProgress
  split <;> rfl
@[simp] theorem State.noteProgress_tflags (cnt : U64) (d : U256) : (s.noteProgress cnt d).tflags = s.tflags := by
  unfold State.noteProgress
  split <;> rfl
@[simp] theorem State.noteProgress_err (cnt : U64) (d : U256) : (s.noteProgress cnt d).err = s.err := by
  unfold State.noteProgress
  split <;> rfl
@[simp] theorem State.noteProgress_irqStatus (cnt : U64) (d : U256) : (s.noteProgress cnt d).irqStatus =
    if progressDue s.progInterval cnt then s.irqStatus ||| evProgress else s.irqStatus := by
  unfold State.noteProgress
  split <;> rfl
@[simp] theorem State.noteProgress_irqEnable (cnt : U64) (d : U256) : (s.noteProgress cnt d).irqEnable = s.irqEnable := by
  unfold State.noteProgress
  split <;> rfl
@[simp] theorem State.noteProgress_progCnt (cnt : U64) (d : U256) : (s.noteProgress cnt d).progCnt =
    if progressDue s.progInterval cnt then cnt else s.progCnt := by
  unfold State.noteProgress
  split <;> rfl
@[simp] theorem State.noteProgress_progDigest (cnt : U64) (d : U256) : (s.noteProgress cnt d).progDigest =
    if progressDue s.progInterval cnt then d else s.progDigest := by
  unfold State.noteProgress
  split <;> rfl
@[simp] theorem State.noteProgress_claim (cnt : U64) (d : U256) : (s.noteProgress cnt d).claim = s.claim := by
  unfold State.noteProgress
  split <;> rfl
@[simp] theorem State.noteProgress_range (cnt : U64) (d : U256) : (s.noteProgress cnt d).range = s.range := by
  unfold State.noteProgress
  split <;> rfl
@[simp] theorem State.noteProgress_nwork (cnt : U64) (d : U256) : (s.noteProgress cnt d).nwork = s.nwork := by
  unfold State.noteProgress
  split <;> rfl
@[simp] theorem State.noteProgress_nlanes (cnt : U64) (d : U256) : (s.noteProgress cnt d).nlanes = s.nlanes := by
  unfold State.noteProgress
  split <;> rfl
@[simp] theorem State.noteProgress_lanes (cnt : U64) (d : U256) : (s.noteProgress cnt d).lanes = s.lanes := by
  unfold State.noteProgress
  split <;> rfl
@[simp] theorem State.noteProgress_baseNonce (cnt : U64) (d : U256) : (s.noteProgress cnt d).baseNonce = s.baseNonce := by
  unfold State.noteProgress
  split <;> rfl
@[simp] theorem State.noteProgress_baseTime (cnt : U64) (d : U256) : (s.noteProgress cnt d).baseTime = s.baseTime := by
  unfold State.noteProgress
  split <;> rfl
@[simp] theorem State.noteProgress_rdata (cnt : U64) (d : U256) : (s.noteProgress cnt d).rdata = s.rdata := by
  unfold State.noteProgress
  split <;> rfl
@[simp] theorem State.noteProgress_agenda (cnt : U64) (d : U256) : (s.noteProgress cnt d).agenda = s.agenda := by
  unfold State.noteProgress
  split <;> rfl
@[simp] theorem State.noteProgress_ticks (cnt : U64) (d : U256) : (s.noteProgress cnt d).ticks = s.ticks := by
  unfold State.noteProgress
  split <;> rfl

@[simp] theorem State.attemptFails_header (d : U256) : (s.attemptFails d).header = s.header.advanced := by
  simp [State.attemptFails]
@[simp] theorem State.attemptFails_limit (d : U256) : (s.attemptFails d).limit = s.limit := by
  simp [State.attemptFails]
@[simp] theorem State.attemptFails_target (d : U256) : (s.attemptFails d).target = s.target := by
  simp [State.attemptFails]
@[simp] theorem State.attemptFails_digest (d : U256) : (s.attemptFails d).digest = d := by
  simp [State.attemptFails]
@[simp] theorem State.attemptFails_hashCnt (d : U256) : (s.attemptFails d).hashCnt = s.nextCount := by
  simp [State.attemptFails]
@[simp] theorem State.attemptFails_foundCnt (d : U256) : (s.attemptFails d).foundCnt = s.foundCnt := by
  simp [State.attemptFails]
@[simp] theorem State.attemptFails_progInterval (d : U256) : (s.attemptFails d).progInterval = s.progInterval := by
  simp [State.attemptFails]
@[simp] theorem State.attemptFails_clamp (d : U256) : (s.attemptFails d).clamp = s.clamp := by
  simp [State.attemptFails]
@[simp] theorem State.attemptFails_multi (d : U256) : (s.attemptFails d).multi = s.multi := by
  simp [State.attemptFails]
@[simp] theorem State.attemptFails_phase (d : U256) : (s.attemptFails d).phase = s.phase := by
  simp [State.attemptFails]
@[simp] theorem State.attemptFails_cancel (d : U256) : (s.attemptFails d).cancel = s.cancel := by
  simp [State.attemptFails]
@[simp] theorem State.attemptFails_winner (d : U256) : (s.attemptFails d).winner = s.winner := by
  simp [State.attemptFails]
@[simp] theorem State.attemptFails_cmp (d : U256) : (s.attemptFails d).cmp = s.cmp := by
  simp [State.attemptFails]
@[simp] theorem State.attemptFails_tflags (d : U256) : (s.attemptFails d).tflags = s.tflags := by
  simp [State.attemptFails]
@[simp] theorem State.attemptFails_err (d : U256) : (s.attemptFails d).err = s.err := by
  simp [State.attemptFails]
@[simp] theorem State.attemptFails_irqStatus (d : U256) : (s.attemptFails d).irqStatus =
    if progressDue s.progInterval s.nextCount then s.irqStatus ||| evProgress else s.irqStatus := by
  simp [State.attemptFails]
@[simp] theorem State.attemptFails_irqEnable (d : U256) : (s.attemptFails d).irqEnable = s.irqEnable := by
  simp [State.attemptFails]
@[simp] theorem State.attemptFails_progCnt (d : U256) : (s.attemptFails d).progCnt =
    if progressDue s.progInterval s.nextCount then s.nextCount else s.progCnt := by
  simp [State.attemptFails]
@[simp] theorem State.attemptFails_progDigest (d : U256) : (s.attemptFails d).progDigest =
    if progressDue s.progInterval s.nextCount then d else s.progDigest := by
  simp [State.attemptFails]
@[simp] theorem State.attemptFails_claim (d : U256) : (s.attemptFails d).claim = s.claim := by
  simp [State.attemptFails]
@[simp] theorem State.attemptFails_range (d : U256) : (s.attemptFails d).range = s.range := by
  simp [State.attemptFails]
@[simp] theorem State.attemptFails_nwork (d : U256) : (s.attemptFails d).nwork = s.nwork := by
  simp [State.attemptFails]
@[simp] theorem State.attemptFails_nlanes (d : U256) : (s.attemptFails d).nlanes = s.nlanes := by
  simp [State.attemptFails]
@[simp] theorem State.attemptFails_lanes (d : U256) : (s.attemptFails d).lanes = s.lanes := by
  simp [State.attemptFails]
@[simp] theorem State.attemptFails_baseNonce (d : U256) : (s.attemptFails d).baseNonce = s.baseNonce := by
  simp [State.attemptFails]
@[simp] theorem State.attemptFails_baseTime (d : U256) : (s.attemptFails d).baseTime = s.baseTime := by
  simp [State.attemptFails]
@[simp] theorem State.attemptFails_rdata (d : U256) : (s.attemptFails d).rdata = s.rdata := by
  simp [State.attemptFails]
@[simp] theorem State.attemptFails_agenda (d : U256) : (s.attemptFails d).agenda = s.agenda := by
  simp [State.attemptFails]
@[simp] theorem State.attemptFails_ticks (d : U256) : (s.attemptFails d).ticks = s.ticks := by
  simp [State.attemptFails]

@[simp] theorem State.laneGoesOn_header (i : Nat) (base : U64) (idx : Nat) (d : U256) : (s.laneGoesOn i base idx d).header = s.header := by
  simp [State.laneGoesOn]
@[simp] theorem State.laneGoesOn_limit (i : Nat) (base : U64) (idx : Nat) (d : U256) : (s.laneGoesOn i base idx d).limit = s.limit := by
  simp [State.laneGoesOn]
@[simp] theorem State.laneGoesOn_target (i : Nat) (base : U64) (idx : Nat) (d : U256) : (s.laneGoesOn i base idx d).target = s.target := by
  simp [State.laneGoesOn]
@[simp] theorem State.laneGoesOn_digest (i : Nat) (base : U64) (idx : Nat) (d : U256) : (s.laneGoesOn i base idx d).digest = s.digest := by
  simp [State.laneGoesOn]
@[simp] theorem State.laneGoesOn_hashCnt (i : Nat) (base : U64) (idx : Nat) (d : U256) : (s.laneGoesOn i base idx d).hashCnt = s.nextCount := by
  simp [State.laneGoesOn]
@[simp] theorem State.laneGoesOn_foundCnt (i : Nat) (base : U64) (idx : Nat) (d : U256) : (s.laneGoesOn i base idx d).foundCnt = s.foundCnt := by
  simp [State.laneGoesOn]
@[simp] theorem State.laneGoesOn_progInterval (i : Nat) (base : U64) (idx : Nat) (d : U256) : (s.laneGoesOn i base idx d).progInterval = s.progInterval := by
  simp [State.laneGoesOn]
@[simp] theorem State.laneGoesOn_clamp (i : Nat) (base : U64) (idx : Nat) (d : U256) : (s.laneGoesOn i base idx d).clamp = s.clamp := by
  simp [State.laneGoesOn]
@[simp] theorem State.laneGoesOn_multi (i : Nat) (base : U64) (idx : Nat) (d : U256) : (s.laneGoesOn i base idx d).multi = s.multi := by
  simp [State.laneGoesOn]
@[simp] theorem State.laneGoesOn_phase (i : Nat) (base : U64) (idx : Nat) (d : U256) : (s.laneGoesOn i base idx d).phase = s.phase := by
  simp [State.laneGoesOn]
@[simp] theorem State.laneGoesOn_cancel (i : Nat) (base : U64) (idx : Nat) (d : U256) : (s.laneGoesOn i base idx d).cancel = s.cancel := by
  simp [State.laneGoesOn]
@[simp] theorem State.laneGoesOn_winner (i : Nat) (base : U64) (idx : Nat) (d : U256) : (s.laneGoesOn i base idx d).winner = s.winner := by
  simp [State.laneGoesOn]
@[simp] theorem State.laneGoesOn_cmp (i : Nat) (base : U64) (idx : Nat) (d : U256) : (s.laneGoesOn i base idx d).cmp = s.cmp := by
  simp [State.laneGoesOn]
@[simp] theorem State.laneGoesOn_tflags (i : Nat) (base : U64) (idx : Nat) (d : U256) : (s.laneGoesOn i base idx d).tflags = s.tflags := by
  simp [State.laneGoesOn]
@[simp] theorem State.laneGoesOn_err (i : Nat) (base : U64) (idx : Nat) (d : U256) : (s.laneGoesOn i base idx d).err = s.err := by
  simp [State.laneGoesOn]
@[simp] theorem State.laneGoesOn_irqStatus (i : Nat) (base : U64) (idx : Nat) (d : U256) : (s.laneGoesOn i base idx d).irqStatus =
    if progressDue s.progInterval s.nextCount then s.irqStatus ||| evProgress else s.irqStatus := by
  simp [State.laneGoesOn]
@[simp] theorem State.laneGoesOn_irqEnable (i : Nat) (base : U64) (idx : Nat) (d : U256) : (s.laneGoesOn i base idx d).irqEnable = s.irqEnable := by
  simp [State.laneGoesOn]
@[simp] theorem State.laneGoesOn_progCnt (i : Nat) (base : U64) (idx : Nat) (d : U256) : (s.laneGoesOn i base idx d).progCnt =
    if progressDue s.progInterval s.nextCount then s.nextCount else s.progCnt := by
  simp [State.laneGoesOn]
@[simp] theorem State.laneGoesOn_progDigest (i : Nat) (base : U64) (idx : Nat) (d : U256) : (s.laneGoesOn i base idx d).progDigest =
    if progressDue s.progInterval s.nextCount then d else s.progDigest := by
  simp [State.laneGoesOn]
@[simp] theorem State.laneGoesOn_claim (i : Nat) (base : U64) (idx : Nat) (d : U256) : (s.laneGoesOn i base idx d).claim = s.claim := by
  simp [State.laneGoesOn]
@[simp] theorem State.laneGoesOn_range (i : Nat) (base : U64) (idx : Nat) (d : U256) : (s.laneGoesOn i base idx d).range = s.range := by
  simp [State.laneGoesOn]
@[simp] theorem State.laneGoesOn_nwork (i : Nat) (base : U64) (idx : Nat) (d : U256) : (s.laneGoesOn i base idx d).nwork = s.nwork := by
  simp [State.laneGoesOn]
@[simp] theorem State.laneGoesOn_nlanes (i : Nat) (base : U64) (idx : Nat) (d : U256) : (s.laneGoesOn i base idx d).nlanes = s.nlanes := by
  simp [State.laneGoesOn]
@[simp] theorem State.laneGoesOn_lanes (i : Nat) (base : U64) (idx : Nat) (d : U256) : (s.laneGoesOn i base idx d).lanes = s.lanes.set i (s.nextPosition base idx) := by
  simp [State.laneGoesOn]
@[simp] theorem State.laneGoesOn_baseNonce (i : Nat) (base : U64) (idx : Nat) (d : U256) : (s.laneGoesOn i base idx d).baseNonce = s.baseNonce := by
  simp [State.laneGoesOn]
@[simp] theorem State.laneGoesOn_baseTime (i : Nat) (base : U64) (idx : Nat) (d : U256) : (s.laneGoesOn i base idx d).baseTime = s.baseTime := by
  simp [State.laneGoesOn]
@[simp] theorem State.laneGoesOn_rdata (i : Nat) (base : U64) (idx : Nat) (d : U256) : (s.laneGoesOn i base idx d).rdata = s.rdata := by
  simp [State.laneGoesOn]
@[simp] theorem State.laneGoesOn_agenda (i : Nat) (base : U64) (idx : Nat) (d : U256) : (s.laneGoesOn i base idx d).agenda = s.agenda := by
  simp [State.laneGoesOn]
@[simp] theorem State.laneGoesOn_ticks (i : Nat) (base : U64) (idx : Nat) (d : U256) : (s.laneGoesOn i base idx d).ticks = s.ticks := by
  simp [State.laneGoesOn]

@[simp] theorem State.hardReset_header : s.hardReset.header = (State.resetTo s.nlanes).header := rfl
@[simp] theorem State.hardReset_limit : s.hardReset.limit = (State.resetTo s.nlanes).limit := rfl
@[simp] theorem State.hardReset_target : s.hardReset.target = (State.resetTo s.nlanes).target := rfl
@[simp] theorem State.hardReset_digest : s.hardReset.digest = (State.resetTo s.nlanes).digest := rfl
@[simp] theorem State.hardReset_hashCnt : s.hardReset.hashCnt = (State.resetTo s.nlanes).hashCnt := rfl
@[simp] theorem State.hardReset_foundCnt : s.hardReset.foundCnt = (State.resetTo s.nlanes).foundCnt := rfl
@[simp] theorem State.hardReset_progInterval : s.hardReset.progInterval = (State.resetTo s.nlanes).progInterval := rfl
@[simp] theorem State.hardReset_clamp : s.hardReset.clamp = (State.resetTo s.nlanes).clamp := rfl
@[simp] theorem State.hardReset_multi : s.hardReset.multi = (State.resetTo s.nlanes).multi := rfl
@[simp] theorem State.hardReset_phase : s.hardReset.phase = (State.resetTo s.nlanes).phase := rfl
@[simp] theorem State.hardReset_cancel : s.hardReset.cancel = (State.resetTo s.nlanes).cancel := rfl
@[simp] theorem State.hardReset_winner : s.hardReset.winner = (State.resetTo s.nlanes).winner := rfl
@[simp] theorem State.hardReset_cmp : s.hardReset.cmp = (State.resetTo s.nlanes).cmp := rfl
@[simp] theorem State.hardReset_tflags : s.hardReset.tflags = (State.resetTo s.nlanes).tflags := rfl
@[simp] theorem State.hardReset_err : s.hardReset.err = (State.resetTo s.nlanes).err := rfl
@[simp] theorem State.hardReset_irqStatus : s.hardReset.irqStatus = (State.resetTo s.nlanes).irqStatus := rfl
@[simp] theorem State.hardReset_irqEnable : s.hardReset.irqEnable = (State.resetTo s.nlanes).irqEnable := rfl
@[simp] theorem State.hardReset_progCnt : s.hardReset.progCnt = (State.resetTo s.nlanes).progCnt := rfl
@[simp] theorem State.hardReset_progDigest : s.hardReset.progDigest = (State.resetTo s.nlanes).progDigest := rfl
@[simp] theorem State.hardReset_claim : s.hardReset.claim = (State.resetTo s.nlanes).claim := rfl
@[simp] theorem State.hardReset_range : s.hardReset.range = (State.resetTo s.nlanes).range := rfl
@[simp] theorem State.hardReset_nwork : s.hardReset.nwork = (State.resetTo s.nlanes).nwork := rfl
@[simp] theorem State.hardReset_nlanes : s.hardReset.nlanes = s.nlanes := rfl
@[simp] theorem State.hardReset_lanes : s.hardReset.lanes = (State.resetTo s.nlanes).lanes := rfl
@[simp] theorem State.hardReset_baseNonce : s.hardReset.baseNonce = (State.resetTo s.nlanes).baseNonce := rfl
@[simp] theorem State.hardReset_baseTime : s.hardReset.baseTime = (State.resetTo s.nlanes).baseTime := rfl
@[simp] theorem State.hardReset_rdata : s.hardReset.rdata = s.rdata := rfl
@[simp] theorem State.hardReset_agenda : s.hardReset.agenda = s.agenda := rfl
@[simp] theorem State.hardReset_ticks : s.hardReset.ticks = s.ticks := rfl

end Sys2Proof.Machine
end

