-- ==== Sys2Proof/Laws/Engine.lean ====
section
/-! SUPPORT. What the enabled engine steps are, step by step, and how a choice number picks one of them. -/

namespace Sys2Proof.Machine

theorem State.allLanesOff_iff (s : State) : s.allLanesOff = true ↔ ∀ l, l ∈ s.lanes → l = .off := by
  simp [State.allLanesOff]

theorem State.lane_of_allLanesOff {s : State} (h : s.allLanesOff = true) (i : Nat) : s.lane i = .off := by
  rw [State.allLanesOff_iff] at h
  unfold State.lane
  rcases Nat.lt_or_ge i s.lanes.length with hi | hi
  · simpa [List.getD_eq_getElem?_getD, hi] using h _ (List.getElem_mem hi)
  · simp [List.getD_eq_getElem?_getD, hi]

theorem State.allLanesOff_of_lane {s : State} (h : ∀ i, s.lane i = .off) : s.allLanesOff = true := by
  rw [State.allLanesOff_iff]
  intro l hl
  obtain ⟨i, hi, rfl⟩ := List.mem_iff_getElem.1 hl
  simpa [State.lane, List.getD_eq_getElem?_getD, hi] using h i

/-- A lane that is not Off has a number below the number of lanes. -/
theorem State.lane_lt {s : State} {i : Nat} (h : s.lane i ≠ .off) : i < s.lanes.length := by
  by_contra hi
  exact h (by simp [State.lane, List.getD_eq_getElem?_getD, Nat.le_of_not_lt hi])

theorem State.setLane_lane (s : State) (i k : Nat) (l : LaneState) :
    (s.setLane i l).lane k = if i = k ∧ i < s.lanes.length then l else s.lane k := by
  unfold State.setLane State.lane
  simp only [List.getD_eq_getElem?_getD, List.getElem?_set]
  by_cases hik : i = k
  · subst hik
    by_cases hi : i < s.lanes.length <;> simp [hi]
  · simp [hik]

/-- When a START is accepted (43_pow_search.md R187). -/
theorem State.startError_eq_none {s : State} :
    s.startError = none ↔ s.phase = .idle ∧ s.badConfig = false ∧ ctSign s.header.bits = false := by
  unfold State.startError
  by_cases hp : s.phase = .idle
  · cases s.badConfig <;> cases ctSign s.header.bits <;> simp [hp]
  · simp [hp]

/-- A progress event changes the snapshot and the event bits only (43_pow_search.md R192). -/
theorem State.noteProgress_eq (s : State) (cnt : U64) (d : U256) :
    s.noteProgress cnt d =
      { s with
        progCnt := (s.noteProgress cnt d).progCnt
        progDigest := (s.noteProgress cnt d).progDigest
        irqStatus := (s.noteProgress cnt d).irqStatus } := by
  unfold State.noteProgress
  split <;> rfl

theorem laneStep_eq_some (s : State) (k : Nat) (i : Instr) :
    laneStep s k = some i ↔
      (s.lane k = .claim ∧ i = .laneClaim k) ∨ (∃ base idx, s.lane k = .work base idx ∧ i = .laneAttempt k) := by
  unfold laneStep
  cases h : s.lane k <;> simp [eq_comm]

/-- The enabled engine steps, one by one (43_pow_search.md R188; 44_multi_worker.md R219). -/
theorem mem_enabledSteps (s : State) (i : Instr) :
    i ∈ enabledSteps s ↔ s.phase = .searching ∧
      ((s.multi = false ∧ s.cancel = false ∧ i = .attempt) ∨ (s.multi = false ∧ s.cancel = true ∧ i = .seqCancel) ∨
        (s.multi = true ∧ ((∃ k, s.lane k = .claim ∧ i = .laneClaim k) ∨
          (∃ k base idx, s.lane k = .work base idx ∧ i = .laneAttempt k) ∨
          (s.allLanesOff = true ∧ i = .finish)))) := by
  unfold enabledSteps
  by_cases hp : s.phase = .searching
  · cases hm : s.multi
    · cases hc : s.cancel <;> simp [hp]
    · simp only [hp, if_true, List.mem_append, List.mem_filterMap, List.mem_range, laneStep_eq_some]
      constructor
      · rintro (⟨k, -, ⟨h, rfl⟩ | ⟨b, x, h, rfl⟩⟩ | h)
        · exact ⟨by simp, .inr (.inr ⟨by simp, .inl ⟨k, h, rfl⟩⟩)⟩
        · exact ⟨by simp, .inr (.inr ⟨by simp, .inr (.inl ⟨k, b, x, h, rfl⟩)⟩)⟩
        · split at h
          · next ha => exact ⟨by simp, .inr (.inr ⟨by simp, .inr (.inr ⟨ha, by simpa using h⟩)⟩)⟩
          · simp at h
      · rintro ⟨-, ⟨h, -⟩ | ⟨h, -⟩ | ⟨-, ⟨k, h, rfl⟩ | ⟨k, b, x, h, rfl⟩ | ⟨h, rfl⟩⟩⟩
        · simp at h
        · simp at h
        · exact .inl ⟨k, State.lane_lt (by simp [h]), .inl ⟨h, rfl⟩⟩
        · exact .inl ⟨k, State.lane_lt (by simp [h]), .inr ⟨b, x, h, rfl⟩⟩
        · exact .inr (by simp [h])
  · simp [hp]

theorem isEngineStep_of_mem_enabledSteps {s : State} {i : Instr} (h : i ∈ enabledSteps s) : i.isEngineStep = true := by
  rw [mem_enabledSteps] at h
  rcases h with ⟨-, ⟨-, -, rfl⟩ | ⟨-, -, rfl⟩ | ⟨-, ⟨k, -, rfl⟩ | ⟨k, b, x, -, rfl⟩ | ⟨-, rfl⟩⟩⟩ <;> rfl

/-- A choice picks an enabled step, if there is one. -/
theorem chosenStep_mem {s : State} {c : Nat} {i : Instr} (h : chosenStep s c = some i) : i ∈ enabledSteps s :=
  List.mem_of_getElem? h

theorem chosenStep_isSome {s : State} (h : enabledSteps s ≠ []) (c : Nat) : ∃ i, chosenStep s c = some i := by
  have hl : 0 < (enabledSteps s).length := List.length_pos_iff.2 h
  exact ⟨_, List.getElem?_eq_getElem (Nat.mod_lt c hl)⟩

theorem chosenStep_eq_none {s : State} (h : enabledSteps s = []) (c : Nat) : chosenStep s c = none := by
  simp [chosenStep, h]

/-- Every enabled step is picked by some choice (44_multi_worker.md R219). -/
theorem exists_choice {s : State} {i : Instr} (h : i ∈ enabledSteps s) : ∃ c, chosenStep s c = some i := by
  obtain ⟨n, hn, rfl⟩ := List.mem_iff_getElem.1 h
  exact ⟨n, by simp [chosenStep, Nat.mod_eq_of_lt hn]⟩

end Sys2Proof.Machine
end

