-- ==== Sys2Proof/Laws/Exec.lean ====
section
/-! SUPPORT. Said once: everything an operation can do to the state (`Effect`), and that a next state of `exec` is one of
these effects (`exec_effect`); the same for `step` (`step_cases`). -/

namespace Sys2Proof.Machine

/-- What an operation can do, with the guard under which it does it. The digest stands as a variable `d` with its equation:
the kernel, which knows no `irreducible`, would otherwise unfold the hash when it compares states. -/
inductive Effect : Instr → State → State → Prop where
  | rejected (i s code info) (host : i.isEngineStep = false) : Effect i s (s.raise code info)
  | readRejected (offset size s code info) :
      Effect (.rd offset size) s { s.raise code info with rdata := 0 }
  | read (offset s r) (at_reg : regAt offset.toNat = some r) :
      Effect (.rd offset 4) s { s with rdata := readReg s r }
  | nop (s) : Effect .nop s s
  | hash (s d) (idle : s.phase = .idle) (is_digest : d = headerDigest s.header) : Effect .hash s { s with digest := d }
  | decode (s) (idle : s.phase = .idle) : Effect .decode s s.latchTarget
  | compare (s) (idle : s.phase = .idle) :
      Effect .compare s { s with cmp := compareFlags (compare256 s.digest s.target) }
  | advance (s) (idle : s.phase = .idle) : Effect .advance s { s with header := s.header.advanced }
  | startSeq (s) (accepted : s.startError = none) (seq : s.multi = false) : Effect .start s s.startSearch
  | startMulti (s) (accepted : s.startError = none) (multi : s.multi = true) :
      Effect .start s s.startSearch.startWorkers
  | stopSearching (s) (searching : s.phase = .searching) : Effect .stop s { s with cancel := true }
  | stopIgnored (s) (rest : s.phase ≠ .searching) : Effect .stop s s
  | ackFound (s) (found : s.phase = .found) : Effect .ack s { s with phase := .idle, winner := false }
  | ackIdle (s) (idle : s.phase = .idle) : Effect .ack s s
  | srst (s) : Effect .srst s s.hardReset
  | store (offset v s r) (at_reg : regAt offset.toNat = some r) (not_cmd : r ≠ .cmd) (not_ro : r.access ≠ .ro)
      (unlocked : r.access = .rwl → s.phase = .idle) : Effect (.wr offset 4 v) s (writeReg s v r)
  | command (offset w s t) (at_cmd : regAt offset.toNat = some .cmd) (sub : Effect (decodeCommand w) s t) :
      Effect (.wr offset 4 w) s t
  | attemptWins (s d) (searching : s.phase = .searching) (seq : s.multi = false) (live : s.cancel = false)
      (is_digest : d = headerDigest s.header) (meets : d ≤ s.target) : Effect .attempt s (s.attemptWins d)
  | attemptFails (s d) (searching : s.phase = .searching) (seq : s.multi = false) (live : s.cancel = false)
      (is_digest : d = headerDigest s.header) (misses : ¬d ≤ s.target) : Effect .attempt s (s.attemptFails d)
  | seqCancel (s) (searching : s.phase = .searching) (seq : s.multi = false) (cancelled : s.cancel = true) :
      Effect .seqCancel s { s with phase := .idle, cancel := false, irqStatus := s.irqStatus ||| evStopped }
  | laneLeaves (i s) (searching : s.phase = .searching) (multi : s.multi = true) (claims : s.lane i = .claim)
      (cancelled : s.cancel = true) : Effect (.laneClaim i) s (s.setLane i .off)
  | laneClaims (i s) (searching : s.phase = .searching) (multi : s.multi = true) (claims : s.lane i = .claim)
      (live : s.cancel = false) :
      Effect (.laneClaim i) s { s.setLane i (.work s.claim 0) with claim := s.claim + s.range.setWidth 64 }
  | laneWins (i s base idx d) (searching : s.phase = .searching) (multi : s.multi = true)
      (works : s.lane i = .work base idx) (is_digest : d = headerDigest (s.laneHeader base idx))
      (meets : d ≤ s.target) (first : s.winner = false) :
      Effect (.laneAttempt i) s (s.laneWins i (s.laneHeader base idx) d)
  | laneGoesOn (i s base idx d) (searching : s.phase = .searching) (multi : s.multi = true)
      (works : s.lane i = .work base idx) (is_digest : d = headerDigest (s.laneHeader base idx))
      (no_win : ¬(d ≤ s.target ∧ s.winner = false)) :
      Effect (.laneAttempt i) s (s.laneGoesOn i base idx d)
  | finishFound (s) (searching : s.phase = .searching) (multi : s.multi = true) (done : s.allLanesOff = true)
      (won : s.winner = true) : Effect .finish s { s with phase := .found, cancel := false }
  | finishStopped (s) (searching : s.phase = .searching) (multi : s.multi = true) (done : s.allLanesOff = true)
      (lost : s.winner = false) :
      Effect .finish s { s with phase := .idle, cancel := false, irqStatus := s.irqStatus ||| evStopped }

/-- CMD dispatch is the meaning of the decoded command (45_host_access.md R243). -/
theorem dispatchCommand_eq (w : Word) (s : State) : dispatchCommand w s = exec (decodeCommand w) s := by
  unfold dispatchCommand decodeCommand
  by_cases hz : zeroField w ≠ 0
  · rw [if_pos hz, if_pos hz]
    rfl
  · rw [if_neg hz, if_neg hz]
    generalize (opc w).toNat = n
    rcases n with _ | _ | _ | _ | _ | _ | _ | _ | _ | n <;> rfl

theorem State.laneWork_eq_some {s : State} {i : Nat} {base : U64} {idx : Nat} :
    s.laneWork i = some (base, idx) ↔ s.phase = .searching ∧ s.multi = true ∧ s.lane i = .work base idx := by
  unfold State.laneWork
  by_cases h : s.phase = .searching ∧ s.multi = true
  · rw [if_pos h]
    cases hl : s.lane i <;> simp [h]
  · rw [if_neg h]
    simpa using fun h1 h2 => absurd ⟨h1, h2⟩ h

/-- A write that passes the access checks (45_host_access.md R241). -/
theorem accessError_write_none {s : State} {offset : Offset} {size : Nat}
    (h : accessError s true offset size = none) :
    size = 4 ∧ ∃ r, regAt offset.toNat = some r ∧ r.access ≠ .ro ∧ (r.access = .rwl → s.phase = .idle) := by
  unfold accessError at h
  split at h
  · simp at h
  · next hm =>
    have h4 : size = 4 := by simp [misaligned] at hm; exact hm.1
    refine ⟨h4, ?_⟩
    cases hr : regAt offset.toNat with
    | none => simp [hr] at h
    | some r =>
      refine ⟨r, rfl, ?_, ?_⟩
      · intro hro; simp [hr, hro] at h
      · intro hl; simpa [hr, hl] using h

/-- A read that passes the access checks (45_host_access.md R240). -/
theorem accessError_read_none {s : State} {offset : Offset} {size : Nat}
    (h : accessError s false offset size = none) : size = 4 ∧ ∃ r, regAt offset.toNat = some r := by
  unfold accessError at h
  split at h
  · simp at h
  · next hm =>
    have h4 : size = 4 := by simp [misaligned] at hm; exact hm.1
    refine ⟨h4, ?_⟩
    cases hr : regAt offset.toNat with
    | none => simp [hr] at h
    | some r => exact ⟨r, rfl⟩

theorem next_inj {s t : State} (h : (.next s : Host.Outcome State Fault Refusal) = .next t) : t = s := by
  injection h with h
  exact h.symm

theorem execHash_effect {s t : State} (h : execHash s = .next t) : Effect .hash s t := by
  unfold execHash at h
  split at h <;> rw [next_inj h]
  · exact .hash s _ ‹_› rfl
  · exact .rejected _ s _ _ rfl

theorem execDecode_effect {s t : State} (h : execDecode s = .next t) : Effect .decode s t := by
  unfold execDecode at h
  split at h <;> rw [next_inj h]
  · exact .decode s ‹_›
  · exact .rejected _ s _ _ rfl

theorem execCompare_effect {s t : State} (h : execCompare s = .next t) : Effect .compare s t := by
  unfold execCompare at h
  split at h <;> rw [next_inj h]
  · exact .compare s ‹_›
  · exact .rejected _ s _ _ rfl

theorem execAdvance_effect {s t : State} (h : execAdvance s = .next t) : Effect .advance s t := by
  unfold execAdvance at h
  split at h <;> rw [next_inj h]
  · exact .advance s ‹_›
  · exact .rejected _ s _ _ rfl

theorem execStart_effect {s t : State} (h : execStart s = .next t) : Effect .start s t := by
  unfold execStart at h
  split at h <;> rw [next_inj h]
  · exact .rejected _ s _ _ rfl
  · next ha =>
    split
    · next hm => exact .startMulti s ha hm
    · next hm => exact .startSeq s ha (by simpa using hm)

theorem execStop_effect {s t : State} (h : execStop s = .next t) : Effect .stop s t := by
  unfold execStop at h
  rw [next_inj h]
  split
  · exact .stopSearching s ‹_›
  · exact .stopIgnored s ‹_›

theorem execAck_effect {s t : State} (h : execAck s = .next t) : Effect .ack s t := by
  unfold execAck at h
  split at h <;> rw [next_inj h]
  · exact .rejected _ s _ _ rfl
  · exact .ackFound s ‹_›
  · exact .ackIdle s ‹_›

theorem execRd_effect {s t : State} {offset : Offset} {size : Nat} (h : execRd offset size s = .next t) :
    Effect (.rd offset size) s t := by
  unfold execRd at h
  split at h <;> rw [next_inj h]
  · exact .readRejected ..
  · next ha =>
    obtain ⟨rfl, r, hr⟩ := accessError_read_none ha
    simpa only [readValue, hr] using Effect.read offset s r hr

theorem execAttempt_effect {s t : State} (h : execAttempt s = .next t) : Effect .attempt s t := by
  unfold execAttempt at h
  split at h
  · next he =>
    have he' : (s.phase = .searching ∧ s.multi = false) ∧ s.cancel = false := by
      simpa [State.attemptEnabled] using he
    rw [next_inj h]
    split
    · exact .attemptWins s _ he'.1.1 he'.1.2 he'.2 rfl ‹_›
    · exact .attemptFails s _ he'.1.1 he'.1.2 he'.2 rfl ‹_›
  · cases h

theorem execSeqCancel_effect {s t : State} (h : execSeqCancel s = .next t) : Effect .seqCancel s t := by
  unfold execSeqCancel at h
  split at h
  · next he =>
    have he' : (s.phase = .searching ∧ s.multi = false) ∧ s.cancel = true := by
      simpa [State.seqCancelEnabled] using he
    rw [next_inj h]
    exact .seqCancel s he'.1.1 he'.1.2 he'.2
  · cases h

theorem execLaneClaim_effect {s t : State} {k : Nat} (h : execLaneClaim k s = .next t) :
    Effect (.laneClaim k) s t := by
  unfold execLaneClaim at h
  split at h
  · next he =>
    have he' : (s.phase = .searching ∧ s.multi = true) ∧ s.lane k = .claim := by
      simpa [State.laneClaimEnabled] using he
    rw [next_inj h]
    split
    · exact .laneLeaves k s he'.1.1 he'.1.2 he'.2 ‹_›
    · next hc => exact .laneClaims k s he'.1.1 he'.1.2 he'.2 (by simpa using hc)
  · cases h

theorem execLaneAttempt_effect {s t : State} {k : Nat} (h : execLaneAttempt k s = .next t) :
    Effect (.laneAttempt k) s t := by
  unfold execLaneAttempt at h
  split at h
  · next base idx hw =>
    obtain ⟨h1, h2, h3⟩ := State.laneWork_eq_some.1 hw
    rw [next_inj h]
    split
    · next hd => exact .laneWins k s base idx _ h1 h2 h3 rfl hd.1 hd.2
    · next hd => exact .laneGoesOn k s base idx _ h1 h2 h3 rfl hd
  · cases h

theorem execFinish_effect {s t : State} (h : execFinish s = .next t) : Effect .finish s t := by
  unfold execFinish at h
  split at h
  · next he =>
    have he' : (s.phase = .searching ∧ s.multi = true) ∧ s.allLanesOff = true := by
      simpa [State.finishEnabled] using he
    rw [next_inj h]
    split
    · exact .finishFound s he'.1.1 he'.1.2 he'.2 ‹_›
    · next hw => exact .finishStopped s he'.1.1 he'.1.2 he'.2 (by simpa using hw)
  · cases h

/-- The effects of an operation that is not a plain bus write. -/
theorem exec_effect_of_not_wr {i : Instr} {s t : State} (hi : ∀ o n v, i ≠ .wr o n v) (h : exec i s = .next t) :
    Effect i s t := by
  cases i with
  | nop => obtain rfl := next_inj h; exact .nop _
  | hash => exact execHash_effect h
  | decode => exact execDecode_effect h
  | compare => exact execCompare_effect h
  | advance => exact execAdvance_effect h
  | start => exact execStart_effect h
  | stop => exact execStop_effect h
  | ack => exact execAck_effect h
  | srst => obtain rfl := next_inj h; exact .srst s
  | rd offset size => exact execRd_effect h
  | wr o n v => exact absurd rfl (hi o n v)
  | attempt => exact execAttempt_effect h
  | seqCancel => exact execSeqCancel_effect h
  | laneClaim k => exact execLaneClaim_effect h
  | laneAttempt k => exact execLaneAttempt_effect h
  | finish => exact execFinish_effect h
  | reserved w => obtain rfl := next_inj h; exact .rejected _ s _ _ rfl

theorem decodeCommand_ne_wr (w : Word) (o : Offset) (n : Nat) (v : Word) : decodeCommand w ≠ .wr o n v := by
  unfold decodeCommand
  split
  · simp
  · split <;> simp

/-- Everything an operation can do, said once. -/
theorem exec_effect {i : Instr} {s t : State} (h : exec i s = .next t) : Effect i s t := by
  by_cases hw : ∃ o n v, i = .wr o n v
  · obtain ⟨offset, size, v, rfl⟩ := hw
    simp only [exec, execWr] at h
    split at h
    · cases h; exact .rejected _ s _ _ rfl
    · next ha =>
      obtain ⟨rfl, r, hr, hro, hl⟩ := accessError_write_none ha
      unfold writeEffect at h
      split at h
      · next hc =>
        rw [dispatchCommand_eq] at h
        exact .command offset v s t hc (exec_effect_of_not_wr (decodeCommand_ne_wr v) h)
      · next r' hne hr' =>
        obtain rfl := next_inj h
        obtain rfl : r = r' := by simpa [hr] using hr'
        exact .store offset v s r hr (fun hc => hne hc) hro hl
      · next hn => simp [hr] at hn
  · exact exec_effect_of_not_wr (fun o n v h => hw ⟨o, n, v, h⟩) h

/-- What a step can do: run an operation in a state without its input, apply the reset input, or nothing; the state it
starts from differs from `s` in the agenda and the scheduler's counter only. -/
theorem step_cases {s t : State} (h : step s = .next t) :
    ∃ agenda ticks,
      (∃ i, exec i { s with agenda := agenda, ticks := ticks } = .next t) ∨
      t = ({ s with agenda := agenda, ticks := ticks } : State).hardReset ∨
      t = { s with agenda := agenda, ticks := ticks } := by
  unfold step fetch at h
  split at h
  all_goals next hf =>
    split at hf
    · refine ⟨[], s.ticks + 1, ?_⟩
      rename_i ha
      have hs : ({ s with agenda := [], ticks := s.ticks + 1 } : State) = { s with ticks := s.ticks + 1 } := by rw [← ha]
      rw [hs]
      unfold fetchEngine at hf
      split at hf <;> cases hf
      all_goals first | exact .inl ⟨_, h⟩ | (cases h; exact .inr (.inr rfl))
    · rename_i a rest ha
      refine ⟨rest, s.ticks, ?_⟩
      unfold fetchBus at hf
      split at hf <;> cases hf
      all_goals first | exact .inl ⟨_, h⟩ | (cases h; exact .inr (.inr rfl))
    · rename_i c rest ha
      refine ⟨rest, s.ticks, ?_⟩
      unfold fetchEngine at hf
      split at hf <;> cases hf
      all_goals first | exact .inl ⟨_, h⟩ | (cases h; exact .inr (.inr rfl))
    · rename_i rest ha
      refine ⟨rest, s.ticks, ?_⟩
      cases hf
      all_goals first | (cases h; exact .inr (.inl rfl))

end Sys2Proof.Machine
end

