-- ==== Sys2Proof/Laws/PerInstr.lean ====
section
/-! SUPPORT. The per-instruction family Encodes: exactly the engine steps have no bus access, and the access of every other
operation lies in the 4 KiB window (30_encoding.md R90, R98, R99). -/

namespace Sys2Proof.Laws

/-- A bus access inside the window (30_encoding.md R98). -/
def insideWindow : Access → Prop
  | .read offset _ => offset < 0x1000
  | .write offset _ _ => offset < 0x1000

/-- The statement of the family, about the operation as syntax. -/
def Encodes.Statement (i : Instr) : Prop :=
  (encode i = none ↔ i.isEngineStep = true) ∧ ∀ a, encode i = some a → insideWindow a

/-- An operation with an access in the window that is no engine step. -/
theorem encodes_of_some {i : Instr} {a : Access} (he : encode i = some a) (hs : i.isEngineStep = false)
    (hw : insideWindow a) : Encodes.Statement i := by
  refine ⟨by simp [he, hs], fun b hb => ?_⟩
  obtain rfl : a = b := by simpa [he] using hb
  exact hw

/-- An engine step has no access. -/
theorem encodes_of_none {i : Instr} (he : encode i = none) (hs : i.isEngineStep = true) : Encodes.Statement i :=
  ⟨by simp [he, hs], fun b hb => by simp [he] at hb⟩

theorem insideWindow_command (w : Word) : insideWindow (commandAccess w) := by
  simp [insideWindow, commandAccess, cmdOffset]

theorem Encodes.nop : Statement .nop := encodes_of_some rfl rfl (insideWindow_command _)
theorem Encodes.hash : Statement .hash := encodes_of_some rfl rfl (insideWindow_command _)
theorem Encodes.decode : Statement .decode := encodes_of_some rfl rfl (insideWindow_command _)
theorem Encodes.compare : Statement .compare := encodes_of_some rfl rfl (insideWindow_command _)
theorem Encodes.advance : Statement .advance := encodes_of_some rfl rfl (insideWindow_command _)
theorem Encodes.start : Statement .start := encodes_of_some rfl rfl (insideWindow_command _)
theorem Encodes.stop : Statement .stop := encodes_of_some rfl rfl (insideWindow_command _)
theorem Encodes.ack : Statement .ack := encodes_of_some rfl rfl (insideWindow_command _)
theorem Encodes.srst : Statement .srst := encodes_of_some rfl rfl (insideWindow_command _)
theorem Encodes.rd (offset : Offset) (size : Nat) : Statement (.rd offset size) :=
  encodes_of_some rfl rfl offset.isLt
theorem Encodes.wr (offset : Offset) (size : Nat) (value : Word) : Statement (.wr offset size value) :=
  encodes_of_some rfl rfl offset.isLt
theorem Encodes.attempt : Statement .attempt := encodes_of_none rfl rfl
theorem Encodes.seqCancel : Statement .seqCancel := encodes_of_none rfl rfl
theorem Encodes.laneClaim (lane : Nat) : Statement (.laneClaim lane) := encodes_of_none rfl rfl
theorem Encodes.laneAttempt (lane : Nat) : Statement (.laneAttempt lane) := encodes_of_none rfl rfl
theorem Encodes.finish : Statement .finish := encodes_of_none rfl rfl
theorem Encodes.reserved (word : Word) : Statement (.reserved word) :=
  encodes_of_some rfl rfl (insideWindow_command _)

end Sys2Proof.Laws
end

