-- ==== Sys2Proof/Tests/Slice0.lean ====
section
/-! SUPPORT. The package's own tests: the WellFormed smoke, written-out encodings, vectors of 95_test_vectors.md (each test
names its source), and for each obligation with hypotheses a witness that meets them. -/

namespace Sys2Proof.Tests

open Sys2Proof Sys2Proof.Machine

/-! ### Helper states -/

/-- An instance with two lanes, after reset. -/
def idle2 : State := State.resetTo 2

/-- A sequential search. -/
def seq2 : State := { idle2 with phase := .searching }

/-- A cancelled sequential search. -/
def seqStop2 : State := { seq2 with cancel := true }

/-- A multi mode search: lane 0 about to claim, lane 1 at the last position of its range. -/
def multi2 : State :=
  { idle2 with phase := .searching, multi := true, lanes := [.claim, .work 0 999], claim := 1000 }

/-- The same, cancelled. -/
def multiStop2 : State := { multi2 with cancel := true }

/-- A multi mode search whose lanes have left, after a STOP. -/
def drained2 : State :=
  { idle2 with phase := .searching, multi := true, cancel := true, lanes := [.off, .off] }

/-- The block with a result. The digest is the header's own, so that the invariant holds. -/
def found2 : State :=
  { idle2 with phase := .found, winner := true, digest := headerDigest idle2.header, target := BitVec.allOnes 256 }

/-- A multi mode search with a winner, the other lane still working. -/
def won2 : State :=
  { multi2 with
    lanes := [.off, .work 0 999], cancel := true, winner := true
    digest := headerDigest idle2.header, target := BitVec.allOnes 256 }

/-- The header of program P1 (95_test_vectors.md section 7) with a nonce. -/
def p1Header (nonce : Word) : Header :=
  { version := 2, prev := 1, merkle := 2, time := 0x60000000, bits := 0x2000ffff, nonce := nonce }

/-- The header of the fourth HASH vector (95_test_vectors.md section 2), with a nonce. -/
def easyHeader (nonce : Word) : Header :=
  { version := 2, prev := 1, merkle := 2, time := 0x60000000, bits := 0x2060ffff, nonce := nonce }

/-- The target of BITS = 0x2060ffff (95_test_vectors.md, program P3). -/
def easyTarget : U256 := 0x60ffff0000000000000000000000000000000000000000000000000000000000

/-- A sequential search whose second candidate is the first to meet the target. -/
def easy2 : State := { seq2 with header := easyHeader 0, target := easyTarget }

/-- What a field of the next state is, if there is one. -/
def after {α : Type} (o : Host.Outcome State Fault Refusal) (f : State → α) : Option α :=
  match o with
  | .next t => some (f t)
  | .fault _ => none
  | .refused _ => none

/-! ### WellFormed refuses ill-formed terms -/

theorem test_wf_refuses_wr_at_cmd : Instr.wf (.wr 0x0C4 4 0x00000001) = false := by decide
theorem test_wf_refuses_command_as_reserved : Instr.wf (.reserved 0x00000008) = false := by decide
theorem test_wf_refuses_lane_claim_255 : Instr.wf (.laneClaim 255) = false := by decide
theorem test_wf_refuses_lane_attempt_255 : Instr.wf (.laneAttempt 255) = false := by decide
theorem test_wf_accepts_neighbours :
    Instr.wf (.wr 0x0C4 2 1) = true ∧ Instr.wf (.reserved 0x00000009) = true ∧ Instr.wf (.reserved 0x00000100) = true ∧
      Instr.wf (.laneClaim 254) = true ∧ Instr.wf (.laneAttempt 254) = true := by decide

/-! ### Decoding: words written out from 30_encoding.md R97, R98, R106 -/

theorem test_decode_nop : decodeTableWord 32 0b00000000000000000000000000000000 = some .nop := by decide
theorem test_decode_hash : decodeTableWord 32 0b00000000000000000000000000000001 = some .hash := by decide
theorem test_decode_decode : decodeTableWord 32 0b00000000000000000000000000000010 = some .decode := by decide
theorem test_decode_compare : decodeTableWord 32 0b00000000000000000000000000000011 = some .compare := by decide
theorem test_decode_advance : decodeTableWord 32 0b00000000000000000000000000000100 = some .advance := by decide
theorem test_decode_start : decodeTableWord 32 0b00000000000000000000000000000101 = some .start := by decide
theorem test_decode_stop : decodeTableWord 32 0b00000000000000000000000000000110 = some .stop := by decide
theorem test_decode_ack : decodeTableWord 32 0b00000000000000000000000000000111 = some .ack := by decide
theorem test_decode_srst : decodeTableWord 32 0b00000000000000000000000000001000 = some .srst := by decide
theorem test_decode_reserved_opc :
    decodeTableWord 32 0b00000000000000000000000000001001 = some (.reserved 0x00000009) ∧
      decodeTableWord 32 0b00000000000000000000000011111111 = some (.reserved 0x000000FF) := by decide
theorem test_decode_reserved_zero_field :
    decodeTableWord 32 0b00000000000000000000000100000101 = some (.reserved 0x00000105) ∧
      decodeTableWord 32 0b10000000000000000000000000000001 = some (.reserved 0x80000001) := by decide
theorem test_decode_engine_rows_have_no_word : decodeTableWord 0 0 = none := by decide
/-- R105: `WR NONCE, 0x7C2BAC1D` is `WR(0x04C, 4, 0x7C2BAC1D)`, `RD STATUS` is `RD(0x0C8, 4)`. -/
theorem test_decode_bus :
    decodeAccess (.write 0x04C 4 0x7C2BAC1D) = .ok (.wr 0x04C 4 0x7C2BAC1D) ∧
      decodeAccess (.read 0x0C8 4) = .ok (.rd 0x0C8 4) ∧ decodeAccess (.write 0x0C4 2 1) = .ok (.wr 0x0C4 2 1) := by decide
theorem test_decode_window_edge :
    decodeAccess (.read 0xFFF 4) = .ok (.rd 0xFFF 4) ∧ decodeAccess (.read 0x1000 4) = .error .outsideWindow := by decide

/-! ### Vectors of the spec, one step each -/

/-- 95_test_vectors.md section 2, "abc". -/
theorem test_sha256_abc :
    sha256 [0x61, 0x62, 0x63] =
      [0xba, 0x78, 0x16, 0xbf, 0x8f, 0x01, 0xcf, 0xea, 0x41, 0x41, 0x40, 0xde, 0x5d, 0xae, 0x22, 0x23,
        0xb0, 0x03, 0x61, 0xa3, 0x96, 0x17, 0x7a, 0x9c, 0xb4, 0x10, 0xff, 0x61, 0xf2, 0x00, 0x15, 0xad] := by
  decide +kernel

/-- 95_test_vectors.md section 2, the reset header. -/
theorem test_hash_reset_header :
    after (exec .hash idle2) (·.digest) =
      some 0x14508459b221041eab257d2baaa7459775ba748246c8403609eb708f0e57e74b := by decide +kernel

/-- 43_pow_search.md R197: HASH while Searching raises E_STATE with INFO = 0x000001. -/
theorem test_hash_busy : after (exec .hash seq2) (readReg · .err) = some 0x00000102 := by decide +kernel

/-- 95_test_vectors.md V1. -/
theorem test_decode_known_vector :
    after (exec .decode { idle2 with header := { idle2.header with bits := 0x1d00ffff } }) (readReg · (.target 6)) =
      some 0xFFFF0000 := by decide +kernel

/-- 41_target_decoder.md R152, the row E = 34: M[7:0] stays, ovf = 1 (M = 0x1234). -/
theorem test_decode_partial_overflow :
    after (exec .decode { idle2 with header := { idle2.header with bits := 0x22001234 } })
      (fun t => (readReg t (.target 7), t.tflags.tovf)) = some (0x34000000, true) := by decide +kernel

/-- 95_test_vectors.md V4: C = 2^255 is large, not negative. -/
theorem test_compare_unsigned :
    after (exec .compare { idle2 with digest := 1#256 <<< 255, target := 1 }) (·.cmp) =
      some { le := false, lt := false, eq := false } := by decide +kernel

/-- 42_uint256_compare.md R176: DIGEST = TARGET gives LE = 1, LT = 0, EQ = 1. -/
theorem test_compare_equal :
    after (exec .compare { idle2 with digest := 5, target := 5 }) (·.cmp) =
      some { le := true, lt := false, eq := true } := by decide +kernel

/-- 43_pow_search.md R186, the corner case of both registers at their maximum. -/
theorem test_advance_wraps_both :
    after (exec .advance { idle2 with header := { idle2.header with nonce := 0xFFFFFFFF, time := 0xFFFFFFFF } })
      (fun t => (t.header.nonce, t.header.time)) = some (0, 0) := by decide +kernel

/-- 95_test_vectors.md V5, the first increment. -/
theorem test_advance_no_wrap :
    after (exec .advance { idle2 with header := { idle2.header with nonce := 0xFFFFFFFE, time := 7 } })
      (fun t => (t.header.nonce, t.header.time)) = some (0xFFFFFFFF, 7) := by decide +kernel

/-- 95_test_vectors.md section 6: BITS = 0x1d80ffff is a negative target. -/
theorem test_start_negative_target :
    after (exec .start { idle2 with header := { idle2.header with bits := 0x1d80ffff } }) (readReg · .err) =
      some 0x00000507 := by decide +kernel

/-- 43_pow_search.md R187: E_CONFIG stands before E_NEGTARGET, and NWORK = NLANES is accepted. -/
theorem test_start_config :
    after (exec .start { idle2 with multi := true, nwork := 3, header := { idle2.header with bits := 0x1d80ffff } })
        (readReg · .err) = some 0x00000508 ∧
      after (exec .start { idle2 with multi := true, nwork := 1 }) (·.lanes) = some [.claim, .off] := by decide +kernel

/-- 43_pow_search.md R193. -/
theorem test_stop_sets_cancel : after (exec .stop seq2) (readReg · .status) = some 0x00000005 := by decide +kernel

/-- 43_pow_search.md R193: no effect in Idle. -/
theorem test_stop_idle : exec .stop idle2 = .next idle2 := rfl

/-- 43_pow_search.md R194. -/
theorem test_ack_searching : after (exec .ack seq2) (readReg · .err) = some 0x00000702 := by decide +kernel

/-- 43_pow_search.md R194: ACK in Idle has no effect. -/
theorem test_ack_idle : exec .ack idle2 = .next idle2 := rfl

/-- 45_host_access.md R244. -/
theorem test_nop_searching : exec .nop multi2 = .next multi2 := rfl

/-- 45_host_access.md R245; 10_state.md R56: RANGE returns to 1000 and LIMIT to all ones. -/
theorem test_srst :
    after (exec .srst { multi2 with range := 5, limit := 0 }) (fun t => (t.range, readReg t (.limit 7), t.phase)) =
      some (0x000003E8, 0xFFFFFFFF, .idle) := by decide +kernel

/-- 95_test_vectors.md section 6: `RD(0x002, 4)`, `RD(0x114, 4)`. -/
theorem test_rd_rejected :
    after (exec (.rd 0x002 4) idle2) (readReg · .err) = some 0x00000206 ∧
      after (exec (.rd 0x114 4) idle2) (readReg · .err) = some 0x00011405 := by decide +kernel

/-- 10_state.md R49, R56: the last register word. -/
theorem test_rd_nlanes : after (exec (.rd 0x110 4) idle2) (·.rdata) = some 2 := by decide +kernel

/-- 95_test_vectors.md section 6: a write to STATUS; 45_host_access.md R241: a locked register while Searching. -/
theorem test_wr_rejected :
    after (exec (.wr 0x0C8 4 1) idle2) (readReg · .err) = some 0x0000C804 ∧
      after (exec (.wr 0x04C 4 5) seq2) (fun t => (readReg t .err, t.header.nonce)) = some (0x00004C03, 0) := by
  decide +kernel

/-- 10_state.md R38, R41: the implemented bits of CTRL, and write-one-to-clear. -/
theorem test_wr_fields :
    after (exec (.wr 0x0C0 4 0xFFFFFFFE) idle2) (readReg · .ctrl) = some 2 ∧
      after (exec (.wr 0x0D0 4 0xFFFFFFF4) { idle2 with irqStatus := 0b0111 }) (readReg · .irqStatus) = some 3 := by
  decide +kernel

/-- 95_test_vectors.md program P1: the attempt at NONCE = 0x10d succeeds. -/
theorem test_attempt_wins :
    after (exec .attempt { seq2 with header := p1Header 0x10d, target := 0xffff <<< 232, hashCnt := 269 })
      (fun t => (t.phase, t.header.nonce, t.hashCnt, t.irqStatus)) = some (.found, 0x10d, 270, 1) := by decide +kernel

/-- 95_test_vectors.md program P1, NONCE = 0: the attempt fails; 43_pow_search.md R192: PROG_INTERVAL = 1 makes it due. -/
theorem test_attempt_fails :
    after (exec .attempt { seq2 with header := p1Header 0, target := 0xffff <<< 232, progInterval := 1 })
        (fun t => (t.phase, t.header.nonce, t.irqStatus)) = some (.searching, 1, 2) := by decide +kernel

/-- 43_pow_search.md R191. -/
theorem test_seq_cancel :
    after (exec .seqCancel seqStop2) (fun t => (t.phase, t.cancel, t.irqStatus)) = some (.idle, false, 8) := by
  decide +kernel

/-- 43_pow_search.md R188: with CANCEL = 0 there is no SEQ_CANCEL. -/
theorem test_seq_cancel_not_enabled : exec .seqCancel seq2 = .refused .stepNotEnabled := rfl

/-- 44_multi_worker.md R218, the example: the next claiming lane gets Work(1000, 0). -/
theorem test_lane_claim :
    after (exec (.laneClaim 0) multi2) (fun t => (t.lane 0, t.claim)) = some (.work 1000 0, 2000) := by decide +kernel

/-- 44_multi_worker.md R218: with CANCEL = 1 the lane leaves. -/
theorem test_lane_claim_cancelled :
    after (exec (.laneClaim 0) multiStop2) (fun t => (t.lane 0, t.claim)) = some (.off, 1000) := by decide +kernel

/-- 95_test_vectors.md program P3: candidate 2 wins, from the second lane's range at 2. -/
theorem test_lane_attempt_wins :
    after
      (exec (.laneAttempt 1)
        { multi2 with
          header := { easyHeader 0 with merkle := 0x4d }, baseTime := 0x60000000
          target := easyTarget, lanes := [.claim, .work 2 0] })
      (fun t => (t.header.nonce, t.winner, t.cancel, t.lane 1, t.phase)) = some (2, true, true, .off, .searching) := by
  decide +kernel

/-- 44_multi_worker.md R220: the last position of a range leads back to Claim. -/
theorem test_lane_attempt_end_of_range :
    after (exec (.laneAttempt 1) multi2) (fun t => (t.lane 1, t.hashCnt, t.header.nonce)) = some (.claim, 1, 0) := by
  decide +kernel

/-- 44_multi_worker.md R222. -/
theorem test_finish_stopped :
    after (exec .finish drained2) (fun t => (t.phase, t.cancel, t.irqStatus)) = some (.idle, false, 8) := by
  decide +kernel

/-- 44_multi_worker.md R222, the example. -/
theorem test_finish_found :
    after (exec .finish { drained2 with winner := true }) (fun t => (t.phase, t.cancel, t.irqStatus)) =
      some (.found, false, 0) := by decide +kernel

/-- 95_test_vectors.md section 6: `WR(0x0C4, 4, 0x00000105)` raises E_BADCMD with INFO = 0x000105. -/
theorem test_reserved :
    after (exec (.reserved 0x00000105) idle2) (readReg · .err) = some 0x00010501 := by decide +kernel

/-- 60_exceptions.md R262: the second error is not recorded. -/
theorem test_first_error_kept :
    after (exec (.reserved 0x00000009) { idle2 with err := some { code := .align, info := 2 } }) (readReg · .err) =
      some 0x00000206 := by decide +kernel

/-- log 11: a command placed by withFetchWord is the next step. -/
theorem test_with_fetch_word : step (State.withFetchWord seq2 32 6) = .next seqStop2 := rfl

/-! ### States that meet the invariant -/

theorem lanes_two {a b : LaneState} {P : LaneState → Prop} (ha : P a) (hb : P b) (hoff : P .off) (i : Nat) :
    P ([a, b].getD i .off) := by
  match i with
  | 0 => exact ha
  | 1 => exact hb
  | _ + 2 => exact hoff

/-- The position of each of two lanes lies in a range of 1000. -/
theorem work_in_range {a b : LaneState} (ha : ∀ base idx, a = .work base idx → idx < 1000)
    (hb : ∀ base idx, b = .work base idx → idx < 1000) (i : Nat) (base : U64) (idx : Nat)
    (h : [a, b].getD i .off = .work base idx) : idx < 1000 :=
  lanes_two (P := fun l => ∀ base idx, l = .work base idx → idx < 1000) ha hb (fun _ _ h => by cases h) i base idx h

theorem seq2_inv : seq2.Inv where
  lanesCount := rfl
  someLane := by decide
  restQuiet := fun h => absurd rfl h
  winnerBusy := nofun
  foundHasWinner := nofun
  seqLanesOff := fun _ => rfl
  seqNoWinner := fun _ _ => rfl
  winnerCancels := nofun
  resultMeetsTarget := nofun
  rangePositive := nofun
  workInRange := work_in_range (a := .off) (b := .off) nofun nofun
  stillWorking := nofun

theorem seqStop2_inv : seqStop2.Inv where
  lanesCount := rfl
  someLane := by decide
  restQuiet := fun h => absurd rfl h
  winnerBusy := nofun
  foundHasWinner := nofun
  seqLanesOff := fun _ => rfl
  seqNoWinner := fun _ _ => rfl
  winnerCancels := nofun
  resultMeetsTarget := nofun
  rangePositive := nofun
  workInRange := work_in_range (a := .off) (b := .off) nofun nofun
  stillWorking := nofun

theorem work999 (base : U64) (idx : Nat) (h : LaneState.work 0 999 = .work base idx) : idx < 1000 := by
  cases h
  decide

theorem multi2_inv : multi2.Inv where
  lanesCount := rfl
  someLane := by decide
  restQuiet := fun h => absurd rfl h
  winnerBusy := nofun
  foundHasWinner := nofun
  seqLanesOff := nofun
  seqNoWinner := nofun
  winnerCancels := nofun
  resultMeetsTarget := nofun
  rangePositive := fun _ _ => by decide
  workInRange := work_in_range (a := .claim) (b := .work 0 999) nofun work999
  stillWorking := fun _ _ _ => rfl

theorem multiStop2_inv : multiStop2.Inv where
  lanesCount := rfl
  someLane := by decide
  restQuiet := fun h => absurd rfl h
  winnerBusy := nofun
  foundHasWinner := nofun
  seqLanesOff := nofun
  seqNoWinner := nofun
  winnerCancels := nofun
  resultMeetsTarget := nofun
  rangePositive := fun _ _ => by decide
  workInRange := work_in_range (a := .claim) (b := .work 0 999) nofun work999
  stillWorking := nofun

theorem drained2_inv : drained2.Inv where
  lanesCount := rfl
  someLane := by decide
  restQuiet := fun h => absurd rfl h
  winnerBusy := nofun
  foundHasWinner := nofun
  seqLanesOff := nofun
  seqNoWinner := nofun
  winnerCancels := nofun
  resultMeetsTarget := nofun
  rangePositive := fun _ _ => by decide
  workInRange := work_in_range (a := .off) (b := .off) nofun nofun
  stillWorking := nofun

theorem le_allOnes (d : U256) : d ≤ BitVec.allOnes 256 := by
  rw [BitVec.le_def, BitVec.toNat_allOnes]
  have := d.isLt
  omega

theorem won2_inv : won2.Inv where
  lanesCount := rfl
  someLane := by decide
  restQuiet := fun h => absurd rfl h
  winnerBusy := nofun
  foundHasWinner := nofun
  seqLanesOff := nofun
  seqNoWinner := nofun
  winnerCancels := fun _ _ => rfl
  resultMeetsTarget := fun _ => ⟨rfl, le_allOnes _⟩
  rangePositive := fun _ _ => by decide
  workInRange := work_in_range (a := .off) (b := .work 0 999) nofun work999
  stillWorking := nofun

/-- The ranges of the two lanes: none in lane 0, [0, 1000) in lane 1. -/
theorem multi2_claims : multi2.ClaimInv where
  belowClaim := fun i base idx h =>
    lanes_two (a := .claim) (b := .work 0 999) (P := fun l => ∀ base idx, l = .work base idx → base.toNat + 1000 ≤ 1000)
      nofun (fun _ _ h => by cases h; decide) nofun i base idx h
  disjoint := by
    intro i j base idx base' idx' hij hi hj
    have key : ∀ k b x, multi2.lane k = .work b x → k = 1 := by
      intro k b x h
      match k with
      | 0 => cases h
      | 1 => rfl
      | _ + 2 => cases h
    exact absurd ((key i _ _ hi).trans (key j _ _ hj).symm) hij
  winnerClaimed := nofun

/-! ### Witnesses: for each obligation with hypotheses, states and operands that meet them, clause by clause -/

theorem test_witness_CommandWordsSelectTheirCommands : 8 < (9 : Word).toNat ∧ 8 < (0xFFFFFFFF : Word).toNat := by decide

theorem test_witness_DecodeInvertsEncode :
    Instr.wf (.wr 0x0C4 2 1) = true ∧ Instr.isEngineStep (.wr 0x0C4 2 1) = false := by decide

theorem test_witness_EncodeInvertsDecode : decodeAccess (.read 0xFFF 1) = .ok (.rd 0xFFF 1) := by decide

theorem test_witness_WriteToCmdRunsTheCommand :
    zeroField 0x00000100 ≠ 0 ∧ 0x08 < (opc 0x00000009).toNat := by decide

theorem test_witness_StepRunsTheDecodedAccess :
    ({ idle2 with agenda := [.bus (commandAccess 5)] } : State).agenda = .bus (commandAccess 5) :: [] ∧
      decodeAccess (commandAccess 5) = .ok .start := by decide

theorem test_witness_AnyEnabledStepMayBeNext :
    .laneAttempt 1 ∈ enabledSteps multi2 ∧ multi2.agenda = [] ∧ enabledSteps multi2 ≠ [] ∧
      ({ multi2 with agenda := [.engine 7] } : State).agenda = .engine 7 :: [] := by decide

theorem test_witness_ResetInputAndSoftReset :
    ({ multi2 with agenda := [.reset] } : State).agenda = .reset :: [] := by decide

theorem test_witness_NothingToDoChangesNoRegister :
    decodeAccess (.read 0x1000 4) = .error .outsideWindow ∧ enabledSteps idle2 = [] ∧ idle2.agenda = [] := by decide

theorem test_witness_EngineStepsRunExactlyWhereEnabled :
    Instr.isEngineStep (.laneClaim 0) = true ∧ .laneClaim 0 ∈ enabledSteps multi2 ∧
      .laneClaim 1 ∉ enabledSteps multi2 := by decide

theorem test_witness_SequentialModeHasOneEnabledStep :
    seq2.phase = .searching ∧ seq2.multi = false ∧ idle2.phase ≠ .searching ∧ found2.phase ≠ .searching := by
  refine ⟨rfl, rfl, by decide, nofun⟩

theorem test_witness_ResetMeetsTheInvariant : (1 : BitVec 8) ≠ 0 ∧ (255 : BitVec 8) ≠ 0 := by decide

theorem test_witness_EveryStepKeepsTheInvariant :
    multi2.Inv ∧ ∃ t, step { multi2 with agenda := [.engine 1] } = .next t := ⟨multi2_inv, _, rfl⟩

theorem test_witness_StateChangesOnlyAsListed :
    (Instr.start.wf = true ∧ ∃ t, exec .start idle2 = .next t) ∧
      (Instr.finish.wf = true ∧ ∃ t, exec .finish drained2 = .next t) := ⟨⟨rfl, _, rfl⟩, rfl, _, rfl⟩

theorem test_witness_LockedRegistersHoldWhileBusy :
    Instr.wf (.wr 0x04C 4 5) = true ∧ Instr.isEngineStep (.wr 0x04C 4 5) = false ∧ seq2.phase ≠ .idle ∧
      (∃ t, exec (.wr 0x04C 4 5) seq2 = .next t) ∧ ∃ t, exec (.laneAttempt 1) multi2 = .next t :=
  ⟨by decide, rfl, by decide, ⟨_, rfl⟩, _, rfl⟩

theorem test_witness_ClaimedRangesStayDisjoint :
    multi2.Inv ∧ multi2.ClaimInv ∧ multi2.claim.toNat + multi2.range.toNat < 2 ^ 64 ∧
      ∃ t, step { multi2 with agenda := [.engine 0] } = .next t :=
  ⟨multi2_inv, multi2_claims, by decide, _, rfl⟩

theorem test_witness_OneWinnerPerSearch :
    (seq2.Inv ∧ ∃ t, exec .attempt seq2 = .next t) ∧
      (won2.Inv ∧ won2.phase = .searching ∧ won2.winner = true ∧ ∃ t, exec (.laneAttempt 1) won2 = .next t) :=
  ⟨⟨seq2_inv, _, rfl⟩, won2_inv, rfl, rfl, _, rfl⟩

theorem test_witness_EnabledLaneStepStaysEnabled :
    .laneClaim 0 ∈ enabledSteps multi2 ∧ .laneAttempt 1 ∈ enabledSteps multi2 ∧ Instr.stop.wf = true ∧
      ∃ t, exec .stop multi2 = .next t := ⟨by decide, by decide, rfl, _, rfl⟩

theorem test_witness_RegisterTableIsExact :
    regAt 0x000 = some .version ∧ regAt 0x110 = some .nlanes ∧ regAt 0x114 = none ∧ regAt 0x001 = none := by decide

theorem test_witness_ResetValues : LaneState.off ∈ (State.resetTo 2).lanes := by decide

theorem test_witness_FirstErrorIsKept :
    idle2.err = none ∧
      ({ idle2 with err := some { code := .align, info := 2 } } : State).err = some { code := .align, info := 2 } := by
  decide

theorem test_witness_ReadReturnsTheRegister :
    regAt (0x0C4 : Offset).toNat = some .cmd ∧ regAt (0x110 : Offset).toNat = some .nlanes := by decide

theorem test_witness_ReadRejections :
    2 ≠ 4 ∧ (0x002 : Offset).toNat % 4 ≠ 0 ∧ (0x114 : Offset).toNat % 4 = 0 ∧ 0x114 ≤ (0x114 : Offset).toNat := by decide

theorem test_witness_WriteRejections :
    (0x113 : Offset).toNat % 4 ≠ 0 ∧ (0xFFC : Offset).toNat % 4 = 0 ∧ 0x114 ≤ (0xFFC : Offset).toNat ∧
      regAt (0x0C8 : Offset).toNat = some .status ∧ RegName.status.access = .ro ∧
      regAt (0x10C : Offset).toNat = some .nwork ∧ RegName.nwork.access = .rwl ∧ seq2.phase ≠ .idle := by decide

theorem test_witness_WriteStoresOneRegister :
    regAt (0x0D4 : Offset).toNat = some .irqEnable ∧ RegName.irqEnable.access = .rw ∧
      regAt (0x0C0 : Offset).toNat = some .ctrl ∧ RegName.ctrl.access = .rwl ∧ idle2.phase = .idle := by decide

theorem test_witness_RegistersReadTheirFields : 7 < 8 ∧ idle2.phase = .idle := by decide

theorem test_witness_ErrRegister :
    idle2.err = none ∧ (idle2.raise .config 5).err = some { code := .config, info := 5 } := by decide

theorem test_witness_ErrorsArePrecise :
    (idle2.irqStatus.getLsbD 2 = false ∧ after (exec (.rd 0x002 4) idle2) (·.irqStatus.getLsbD 2) = some true) ∧
      after (exec (.wr 0x0C4 4 1) seq2) (·.irqStatus.getLsbD 2) = some true := by decide +kernel

theorem test_witness_ReservedWordIsRejected :
    (0x80000000 : Word).extractLsb' 8 24 ≠ 0 ∧ 0x09 ≤ ((0x00000009 : Word).extractLsb' 0 8).toNat := by decide

theorem test_witness_ObservationNeverAffectsTheSearch :
    (∀ x, x ∈ ({ multi2 with agenda := [.engine 1] } : State).agenda → ∃ choice, x = .engine choice) ∧
      SameSearch { multi2 with agenda := [.engine 1] } { multi2 with agenda := [.engine 1], irqEnable := 0xF, progInterval := 0 } ∧
      ∃ t, Host.Core.run Sys2Proof.core 1 { multi2 with agenda := [.engine 1] } = .next t :=
  ⟨fun x hx => ⟨1, by simpa using hx⟩, rfl, _, rfl⟩

theorem test_witness_IdleAndBusyCommands : idle2.phase = .idle ∧ seq2.phase ≠ .idle ∧ multi2.phase ≠ .idle := by decide

theorem test_witness_DigestWordsAreSwappedChainingWords :
    ∃ w, (shaFinal (sha256 [0x61])).words[7]? = some w := ⟨_, rfl⟩

theorem test_witness_SerializeRoundTrip : (serialize idle2.header).length = 80 := by decide

theorem test_witness_HeaderWindowIsTheSerialization : 79 < 80 := by decide

theorem test_witness_WritingTheWindowLoadsTheHeader :
    ({ idle2 with agenda := scriptWrHdr (serialize (p1Header 0)) } : State).agenda =
      scriptWrHdr (serialize (p1Header 0)) ++ [] ∧ idle2.phase = .idle := ⟨(List.append_nil _).symm, rfl⟩

theorem test_witness_CompactDecodeByExponent :
    ((0x03123456 : Word).extractLsb' 24 8).toNat = 3 ∧ ((0x04123456 : Word).extractLsb' 24 8).toNat = 4 ∧
      ((0x20123456 : Word).extractLsb' 24 8).toNat = 32 ∧ ((0x21123456 : Word).extractLsb' 24 8).toNat = 33 ∧
      ((0x22123456 : Word).extractLsb' 24 8).toNat = 34 ∧ ((0x23123456 : Word).extractLsb' 24 8).toNat = 35 := by decide

theorem test_witness_CompactDecodeByWords :
    7 < 8 ∧ 4 ≤ ((0x04123456 : Word).extractLsb' 24 8).toNat ∧ ((0x22123456 : Word).extractLsb' 24 8).toNat ≤ 34 := by
  decide

/-- One state for each clause of StartCommand: busy, bad configuration, negative target, accepted. -/
theorem test_witness_StartCommand :
    seq2.phase ≠ .idle ∧ ({ idle2 with multi := true, range := 0 } : State).range = 0 ∧
      (0x1d80ffff : Word).getLsbD 23 = true ∧ idle2.header.bits.getLsbD 23 = false ∧ idle2.multi = false ∧
      idle2.nwork ≠ 0 ∧ ¬idle2.nlanes.toNat < idle2.nwork.toNat ∧ idle2.range ≠ 0 := by decide

theorem test_witness_StopAckAndNopCommands :
    seq2.phase = .searching ∧ found2.phase = .found ∧ idle2.phase = .idle := ⟨rfl, rfl, rfl⟩

/-- One digest below and one above a target: the winning and the failing attempt (the vectors of `test_attempt_wins` and
`test_attempt_fails`). -/
theorem test_witness_SequentialAttempt :
    seq2.phase = .searching ∧ seq2.multi = false ∧ seq2.cancel = false ∧
      (headerDigest (p1Header 0x10d)).toNat ≤ (0xffff#256 <<< 232).toNat ∧
      (0xffff#256 <<< 232).toNat < (headerDigest (p1Header 0)).toNat := by decide +kernel

theorem test_witness_SequentialCancelStops :
    seqStop2.phase = .searching ∧ seqStop2.multi = false ∧ seqStop2.cancel = true := by decide

theorem test_witness_CandidatesAreDistinct : 2 ^ 64 - 1 < 2 ^ 64 ∧ cand 5 6 (2 ^ 64 - 1) = cand 5 6 (2 ^ 64 - 1) := by
  decide

/-- The second candidate is the first to meet the target: both clauses of SequentialSearchFindsTheFirst with j = 1. -/
theorem test_witness_SequentialSearchFindsTheFirst :
    easy2.phase = .searching ∧ easy2.multi = false ∧ easy2.cancel = false ∧ easy2.agenda = [] ∧
      (∀ i, i < 1 → easy2.target <
        headerDigest (easy2.header.withCandidate (cand easy2.header.nonce easy2.header.time i))) ∧
      headerDigest (easy2.header.withCandidate (cand easy2.header.nonce easy2.header.time 1)) ≤ easy2.target := by
  decide +kernel

theorem test_witness_LaneClaimTakesARange :
    multi2.phase = .searching ∧ multi2.multi = true ∧ multi2.lane 0 = .claim ∧ multi2.cancel = false ∧
      multiStop2.lane 0 = .claim ∧ multiStop2.cancel = true := by decide

/-- Both branches of LANE_ATTEMPT: no winner yet, and a winner already. -/
theorem test_witness_LaneAttempt :
    multi2.phase = .searching ∧ multi2.multi = true ∧ multi2.lane 1 = .work 0 999 ∧ multi2.winner = false ∧
      won2.lane 1 = .work 0 999 ∧ won2.winner = true ∧
      ∀ d : U256, d.toNat ≤ ({ multi2 with target := BitVec.allOnes 256 } : State).target.toNat :=
  ⟨rfl, rfl, rfl, rfl, rfl, rfl, fun d => BitVec.le_def.1 (le_allOnes d)⟩

theorem test_witness_FinishEndsTheSearch :
    drained2.Inv ∧ .finish ∈ enabledSteps drained2 ∧ drained2.winner = false ∧
      ({ drained2 with winner := true } : State).winner = true ∧ ∀ l, l ∈ drained2.lanes → l = .off :=
  ⟨drained2_inv, by decide, rfl, rfl, by decide⟩

theorem test_witness_CancelledSearchEndsInBoundedSteps :
    multiStop2.Inv ∧ multiStop2.phase = .searching ∧ multiStop2.cancel = true ∧ multiStop2.agenda = [] :=
  ⟨multiStop2_inv, rfl, rfl, rfl⟩

/-- A run of a cancelled sequential search with a silent host: SEQ_CANCEL, then nothing more to do. -/
def stopRun : Nat → State
  | 0 => seqStop2
  | n + 1 => { seqStop2 with phase := .idle, cancel := false, irqStatus := 0b1000, ticks := n + 1 }

theorem stopRun_first : step seqStop2 = .next (stopRun 1) := by
  have h : chosenStep { seqStop2 with ticks := 1 } (Config.schedule 0) = some .seqCancel := by
    show [Instr.seqCancel][Config.schedule 0 % 1]? = some .seqCancel
    rw [Nat.mod_one]
    rfl
  show (match fetchEngine (Config.schedule 0) { seqStop2 with ticks := 1 } with
    | .run i t => exec i t
    | .resetInput t => .next t.hardReset
    | .nothing t => .next t) = _
  rw [fetchEngine, h]
  rfl

theorem test_witness_FairRunsEndACancelledSearch :
    IsRun stopRun ∧ WeaklyFair stopRun ∧ (stopRun 0).Inv ∧ (stopRun 0).phase = .searching ∧
      (stopRun 0).cancel = true := by
  refine ⟨?_, ?_, seqStop2_inv, rfl, rfl⟩
  · intro n
    cases n with
    | zero => exact ⟨_, [], stopRun_first, rfl⟩
    | succ n => exact ⟨_, [], rfl, rfl⟩
  · intro i n h
    exact absurd (h (n + 1) (Nat.le_succ n)) (by simp [enabledSteps, stopRun])

end Sys2Proof.Tests
end

section
/-! Proofs about the register map (10_state.md): the words assembled from fields, what the host reads after reset, and what a
host write does at a mapped offset. -/

namespace Sys2Proof.Machine

/-! ### STATUS -/

theorem getElem_bitAt (b : Bool) (i k : Nat) (hk : k < 32) : (bitAt b i)[k] = (b && decide (k = i)) := by
  have hone : ((1 : Word) <<< i)[k] = decide (k = i) := by
    rw [Bool.eq_iff_iff]
    simp only [BitVec.ofNat_eq_ofNat, BitVec.getElem_shiftLeft, BitVec.getElem_one, Bool.and_eq_true,
      Bool.not_eq_eq_eq_not, Bool.not_true, decide_eq_false_iff_not, not_lt, decide_eq_true_eq]
    omega
  cases b with
  | false => simp [bitAt]
  | true => simpa [bitAt] using hone

/-- Each bit of STATUS: STATE in bits 1:0, each flag at its place, zeros elsewhere (10_state.md R37). -/
theorem getElem_statusWord (s : State) (k : Nat) (hk : k < 32) :
    s.statusWord[k] =
      (s.phase.toBits.getLsbD k || s.cancel && decide (k = 2) || s.winner && decide (k = 3)
        || s.cmp.le && decide (k = 4) || s.cmp.lt && decide (k = 5) || s.cmp.eq && decide (k = 6)
        || s.tflags.tneg && decide (k = 8) || s.tflags.tovf && decide (k = 9)
        || s.tflags.tclamped && decide (k = 10) || s.tflags.tzero && decide (k = 11)) := by
  simp [State.statusWord, getElem_bitAt]

theorem extractLsb'_statusWord_state (s : State) : s.statusWord.extractLsb' 0 2 = s.phase.toBits := by
  apply BitVec.eq_of_getElem_eq
  intro k hk
  have h : k = 0 ∨ k = 1 := by omega
  rcases h with rfl | rfl <;> simp [getElem_statusWord]

theorem extractLsb'_statusWord_reserved (s : State) : s.statusWord.extractLsb' 12 20 = 0 := by
  apply BitVec.eq_of_getElem_eq
  intro k hk
  have hphase : s.phase.toBits.getLsbD (12 + k) = false := BitVec.getLsbD_of_ge _ _ (by omega)
  have hne : ∀ i, i < 12 → 12 + k ≠ i := by omega
  have h32 : 12 + k < 32 := by omega
  simp [BitVec.getLsbD_eq_getElem h32, getElem_statusWord, hphase, hne]

theorem statusWord_resetTo (n : BitVec 8) : (State.resetTo n).statusWord = 0 := by
  simp [State.statusWord, State.resetTo, SearchState.toBits, bitAt]

/-! ### ERR -/

@[simp] theorem keepFirst_none (new : ErrRecord) : keepFirst none new = some new := rfl

@[simp] theorem keepFirst_some (held new : ErrRecord) : keepFirst (some held) new = some held := rfl

theorem errWord_of_none {s : State} (h : s.err = none) : s.errWord = 0 := by
  simp [State.errWord, h]

theorem errWord_of_some {s : State} {r : ErrRecord} (h : s.err = some r) :
    s.errWord = r.code.toBits.setWidth 32 ||| (r.info.setWidth 32 <<< 8) := by
  simp [State.errWord, h]

theorem extractLsb'_errWord_code {s : State} {r : ErrRecord} (h : s.err = some r) :
    s.errWord.extractLsb' 0 4 = r.code.toBits := by
  apply BitVec.eq_of_getElem_eq
  intro k hk
  have h8 : k < 8 := by omega
  have h32 : k < 32 := by omega
  simp [errWord_of_some h, h8, h32, hk]

theorem extractLsb'_errWord_reserved {s : State} {r : ErrRecord} (h : s.err = some r) :
    s.errWord.extractLsb' 4 4 = 0 := by
  apply BitVec.eq_of_getElem_eq
  intro k hk
  have h8 : 4 + k < 8 := by omega
  simp [errWord_of_some h, h8]

theorem extractLsb'_errWord_info {s : State} {r : ErrRecord} (h : s.err = some r) :
    s.errWord.extractLsb' 8 24 = r.info := by
  apply BitVec.eq_of_getElem_eq
  intro k hk
  have hcode : r.code.toBits.getLsbD (8 + k) = false := BitVec.getLsbD_of_ge _ _ (by omega)
  have h32 : k < 32 ∧ 8 + k < 32 := by omega
  simp [errWord_of_some h, hcode, h32, hk]

/-! ### Host writes at a mapped offset -/

/-- Only aligned offsets name a register (10_state.md R47). -/
theorem regAt_mod_four {o : Nat} {r : RegName} (h : regAt o = some r) : o % 4 = 0 := by
  have haligned : ∀ row ∈ registerTable, row.1 % 4 = 0 := by decide
  obtain ⟨row, hrow, -⟩ := Option.map_eq_some_iff.1 h
  have ho : row.1 = o := by simpa using List.find?_some hrow
  exact ho ▸ haligned row (List.mem_of_find?_eq_some hrow)

theorem misaligned_of_regAt {offset : Offset} {r : RegName} (h : regAt offset.toNat = some r) :
    misaligned offset 4 = false := by
  simp [misaligned, regAt_mod_four h]

/-- The access check of a 4-byte write to a register (45_host_access.md R241). -/
theorem accessError_write_of_regAt (s : State) {offset : Offset} {r : RegName} (h : regAt offset.toNat = some r) :
    accessError s true offset 4 =
      if r.access = .ro then some .roWr
      else if r.access = .rwl ∧ s.phase ≠ .idle then some .busyWr
      else none := by
  simp [accessError, misaligned_of_regAt h, h]

/-- A write to a read-only register raises E_ROWR (45_host_access.md R241). -/
theorem exec_wr_readOnly (s : State) {offset : Offset} {r : RegName} (v : Word) (h : regAt offset.toNat = some r)
    (hro : r.access = .ro) : exec (.wr offset 4 v) s = .next (s.raise .roWr (offsetInfo offset)) := by
  simp [exec, execWr, accessError_write_of_regAt s h, hro]

theorem writeEffect_of_ne_cmd (s : State) {offset : Offset} {r : RegName} (v : Word)
    (h : regAt offset.toNat = some r) (hcmd : r ≠ .cmd) : writeEffect offset v s = .next (writeReg s v r) := by
  unfold writeEffect
  split
  · next hc => exact absurd (Option.some.inj (h.symm.trans hc)) hcmd
  · next hr => rw [Option.some.inj (h.symm.trans hr)]
  · next hn => simp [h] at hn

/-- An accepted write to a register other than CMD stores there (45_host_access.md R242). -/
theorem exec_wr_accepted (s : State) {offset : Offset} {r : RegName} (v : Word) (h : regAt offset.toNat = some r)
    (hcmd : r ≠ .cmd) (hro : r.access ≠ .ro) (hlock : r.access = .rwl → s.phase = .idle) :
    exec (.wr offset 4 v) s = .next (writeReg s v r) := by
  have hbusy : ¬(r.access = .rwl ∧ s.phase ≠ .idle) := fun ⟨hl, hp⟩ => hp (hlock hl)
  simp only [exec, execWr, accessError_write_of_regAt s h, if_neg hro, if_neg hbusy, writeEffect_of_ne_cmd s v h hcmd]

/-! ### What the host reads after reset -/

theorem wordOf_zero (j : Nat) : wordOf 0 j = 0 := by
  simp [wordOf]

theorem hi32_zero : hi32 0 = 0 := by
  simp [hi32]

theorem wordOf_allOnes (j : Fin 8) : wordOf (BitVec.allOnes 256) j = BitVec.allOnes 32 := by
  apply BitVec.eq_of_getElem_eq
  intro k hk
  have hbit : 32 * j.val + k < 256 := by omega
  simp only [wordOf, BitVec.getElem_extractLsb', BitVec.getLsbD_allOnes, BitVec.getElem_allOnes, hbit, decide_true]

theorem ctrlWord_resetTo (n : BitVec 8) : (State.resetTo n).ctrlWord = 0 := by
  simp [State.ctrlWord, State.resetTo, bitAt]

theorem irq_resetTo (n : BitVec 8) : (State.resetTo n).irq = false := by
  simp [State.irq, State.resetTo]

theorem errWord_resetTo (n : BitVec 8) : (State.resetTo n).errWord = 0 := errWord_of_none rfl

end Sys2Proof.Machine

namespace Sys2Proof.Proofs

open Sys2Proof.Machine

/-- Settles O21: register by register, a 256-bit register by its words. -/
theorem resetValues : Obligations.ResetValues := by
  intro n
  refine ⟨fun r => ?_, List.length_replicate, fun l => List.eq_of_mem_replicate, rfl, rfl, irq_resetTo n⟩
  cases r with
  | limit j => exact wordOf_allOnes j
  | status => exact statusWord_resetTo n
  | ctrl => exact ctrlWord_resetTo n
  | err => exact errWord_resetTo n
  | prev j | merkle j | target j | digest j | progDigest j => exact wordOf_zero j
  | hashCntHi | progCntHi | claimHi => exact hi32_zero
  | _ => rfl

/-- Settles O22: STATUS bit by bit, and its row in the register map. -/
theorem statusWordLayout : Obligations.StatusWordLayout := by
  refine ⟨fun s => ⟨?_, ?_⟩, statusWord_resetTo, fun s v => exec_wr_readOnly s v (r := .status) rfl rfl⟩
  · rw [readReg, extractLsb'_statusWord_state]
    cases s.phase <;> rfl
  · simp [readReg, getElem_statusWord, extractLsb'_statusWord_reserved]

/-- Settles O28: the fields of the recorded word, and the row of ERR in the register map, writable in every state. -/
theorem errRegister : Obligations.ErrRegister := by
  refine ⟨errWord_resetTo, fun s h => ⟨errWord_of_none h, by simp [h]⟩, fun s r h => by simp [h],
    fun s r h => ⟨?_, extractLsb'_errWord_reserved h, extractLsb'_errWord_info h⟩,
    fun s v => exec_wr_accepted s v (r := .err) rfl nofun nofun nofun⟩
  rw [readReg, extractLsb'_errWord_code h]
  cases r.code <;> rfl

end Sys2Proof.Proofs
end

section
/-! Proofs about the command encoding (30_encoding.md): the words above 8 are the reserved ones, no two words decode to one
operation, and a 4-byte write to CMD runs the decoded command. -/

namespace Sys2Proof

/-! ### The fields of a command word -/

/-- Format `CMDW` covers the word: `OPC` below `ZERO` (30_encoding.md R97). -/
theorem toNat_eq_opc_add_zeroField (w : Word) : w.toNat = (opc w).toNat + 256 * (zeroField w).toNat := by
  have hlt : w.toNat < 4294967296 := w.isLt
  simp only [opc, zeroField, BitVec.extractLsb'_toNat, Nat.shiftRight_eq_div_pow, Nat.reducePow]
  omega

/-- The two ways in which a word is reserved (30_encoding.md R101) are one: it is above the last command's code. -/
theorem zeroField_ne_zero_or_lt_opc_iff (w : Word) : zeroField w ≠ 0 ∨ 8 < (opc w).toNat ↔ 8 < w.toNat := by
  have hfields := toNat_eq_opc_add_zeroField w
  have hopc : (opc w).toNat < 256 := (opc w).isLt
  have hzero : zeroField w ≠ 0 ↔ (zeroField w).toNat ≠ 0 := not_congr BitVec.toNat_inj.symm
  rw [hzero]
  omega

/-! ### The command decoder -/

theorem decodeCommand_of_lt {w : Word} (h : 8 < w.toNat) : decodeCommand w = .reserved w := by
  unfold decodeCommand
  by_cases hz : zeroField w ≠ 0
  · exact if_pos hz
  · have hopc : 8 < (opc w).toNat := ((zeroField_ne_zero_or_lt_opc_iff w).2 h).resolve_left hz
    obtain ⟨n, hn⟩ : ∃ n, (opc w).toNat = n + 9 := Nat.exists_eq_add_of_le' hopc
    rw [if_neg hz, hn]
    rfl

/-- Encoding the decoded command gives the written word back, so no bit of it is dropped (30_encoding.md R106). -/
theorem encode_decodeCommand (w : Word) : encode (decodeCommand w) = some (commandAccess w) := by
  by_cases h : 8 < w.toNat
  · rw [decodeCommand_of_lt h]
    rfl
  · have hcodes : ∀ n < 9, encode (decodeCommand (BitVec.ofNat 32 n)) = some (commandAccess (BitVec.ofNat 32 n)) := by
      decide
    simpa using hcodes w.toNat (by omega)

theorem decodeCommand_injective : Function.Injective decodeCommand := by
  intro v w h
  have haccess : commandAccess v = commandAccess w :=
    Option.some.inj (by rw [← encode_decodeCommand v, h, encode_decodeCommand w])
  injection haccess

end Sys2Proof

namespace Sys2Proof.Machine

/-- A reserved command word raises E_BADCMD, and that is all (30_encoding.md R101). -/
theorem exec_reserved (w : Word) (s : State) :
    exec (.reserved w) s = .next (s.raise .badCmd (w.setWidth 24)) := rfl

/-- A 4-byte write to CMD runs the command that its data selects (45_host_access.md R243). -/
theorem exec_wr_cmd (w : Word) (s : State) : exec (.wr 0x0C4 4 w) s = exec (decodeCommand w) s := by
  have haccepted : accessError s true 0x0C4 4 = none := accessError_write_of_regAt s (r := .cmd) rfl
  rw [← dispatchCommand_eq]
  simp only [exec, execWr, haccepted]
  rfl

end Sys2Proof.Machine

namespace Sys2Proof.Proofs

open Sys2Proof.Machine

/-- Settles O1: the decoder is injective and sends each code to its command; a word above 8 is reserved. -/
theorem commandWordsSelectTheirCommands : Obligations.CommandWordsSelectTheirCommands := by
  intro w
  have selects (code : Word) : decodeCommand w = decodeCommand code ↔ w = code := decodeCommand_injective.eq_iff
  refine ⟨selects 0x00, selects 0x01, selects 0x02, selects 0x03, selects 0x04, selects 0x05, selects 0x06, selects 0x07,
    selects 0x08, fun h s => ?_⟩
  rw [exec_wr_cmd, decodeCommand_of_lt h, exec_reserved]

/-- Settles O31: `ZERO` not 0 or `OPC` from 0x09 puts the word above 8. -/
theorem reservedWordIsRejected : Obligations.ReservedWordIsRejected := by
  intro w s h
  exact ⟨decodeCommand_of_lt ((zeroField_ne_zero_or_lt_opc_iff w).1 h), exec_reserved w s⟩

end Sys2Proof.Proofs
end

section
/-! Proofs about the header codec (40_header_codec.md): a serialised header and a chaining value as words, the blocks of a
padded message, and the command HASH. -/

namespace Sys2Proof.Machine

/-! ### Slices of byte sequences -/

theorem slice_zero_of_length {a : List Byte} {n : Nat} (h : a.length = n) : slice a 0 n = a :=
  List.take_of_length_le h.le

theorem slice_append_of_le {a : List Byte} {k n : Nat} (b : List Byte) (h : k + n ≤ a.length) :
    slice (a ++ b) k n = slice a k n := by
  rw [slice, slice, List.drop_append_of_le_length (by omega), List.take_append_of_le_length (by simp; omega)]

theorem slice_append_add {a : List Byte} {m : Nat} (b : List Byte) (k n : Nat) (h : a.length = m) :
    slice (a ++ b) (m + k) n = slice b k n := by
  rw [slice, slice, ← h, List.drop_length_add_append]

theorem slice_zero_append_slice (b : List Byte) (m n : Nat) : slice b 0 m ++ slice b m n = slice b 0 (m + n) :=
  List.take_add.symm

theorem length_slice_of_le {b : List Byte} {k n : Nat} (h : k + n ≤ b.length) : (slice b k n).length = n := by
  rw [slice, List.length_take, List.length_drop]
  omega

/-- In a row of 4-byte images, the four bytes from position `4k` on are the image of element `k`. -/
theorem slice_flatMap {f : Word → List Byte} (hf : ∀ w, (f w).length = 4) {ws : List Word} {k : Nat} {w : Word}
    (hw : ws[k]? = some w) : slice (ws.flatMap f) (4 * k) 4 = f w := by
  induction ws generalizing k with
  | nil => simp at hw
  | cons x xs ih =>
    rw [List.flatMap_cons]
    cases k with
    | zero =>
      obtain rfl : x = w := by simpa using hw
      rw [slice_append_of_le _ (by simp [hf]), slice_zero_of_length (hf x)]
    | succ k => rw [Nat.mul_succ, Nat.add_comm, slice_append_add _ _ _ (hf x), ih (by simpa using hw)]

/-! ### Byte order of words -/

theorem reverse_le32 (w : Word) : (le32 w).reverse = be32 w := rfl

/-- `bswap32` turns one byte order into the other (00_scope.md R9). -/
theorem le32_bswap32 (w : Word) : le32 (bswap32 w) = be32 w :=
  le32_ofNat_intLe (be32 w) rfl

theorem be32_bswap32 (w : Word) : be32 (bswap32 w) = le32 w := by
  rw [← reverse_le32, le32_bswap32, ← reverse_le32, List.reverse_reverse]

@[simp] theorem length_flatMap_be32 (ws : List Word) : (ws.flatMap be32).length = 4 * ws.length := by
  simp [List.length_flatMap, Nat.mul_comm]

theorem flatMap_be32_map_bswap32 (ws : List Word) : (ws.map bswap32).flatMap be32 = ws.flatMap le32 := by
  simp [List.flatMap_map, be32_bswap32]

theorem ofNat_intBe_be32 (w : Word) : BitVec.ofNat 32 (intBe (be32 w)) = w := by
  have hle : intBe (be32 w) = intLe (le32 w) := by
    simp only [intBe, be32, le32, intLe, List.foldl_cons, List.foldl_nil]
    omega
  rw [hle, ofNat_intLe_le32]

/-- The bytes of a 256-bit value are those of its words, least significant first (10_state.md R21). -/
theorem le256_eq_flatMap (v : U256) : le256 v = ((List.range 8).map (wordOf v)).flatMap le32 := by
  have hbyte (j k : Nat) (hk : k + 8 ≤ 32) : (wordOf v j).extractLsb' k 8 = v.extractLsb' (32 * j + k) 8 := by
    apply BitVec.eq_of_getLsbD_eq
    intro i hi
    have hlt : k + i < 32 := by omega
    simp [wordOf, hi, hlt, Nat.add_assoc]
  simp [le256, le32, hbyte, List.range_succ]

theorem slice_le256 (v : U256) {j : Nat} (hj : j < 8) : slice (le256 v) (4 * j) 4 = le32 (wordOf v j) := by
  rw [le256_eq_flatMap]
  exact slice_flatMap length_le32 (by simp [hj])

/-! ### Serialize and Deserialize -/

/-- The serialised header is its twenty words, each least significant byte first (30_encoding.md R91). -/
theorem serialize_eq_flatMap (h : Header) : serialize h = (headerWords h).flatMap le32 := by
  simp [serialize, headerWords, le256_eq_flatMap]

@[simp] theorem length_headerWords (h : Header) : (headerWords h).length = 20 := by simp [headerWords]

theorem deserialize_of_length {b : List Byte} (h : b.length = 80) :
    deserialize b = some
      { version := BitVec.ofNat 32 (intLe (slice b 0 4))
        prev := BitVec.ofNat 256 (intLe (slice b 4 32))
        merkle := BitVec.ofNat 256 (intLe (slice b 36 32))
        time := BitVec.ofNat 32 (intLe (slice b 68 4))
        bits := BitVec.ofNat 32 (intLe (slice b 72 4))
        nonce := BitVec.ofNat 32 (intLe (slice b 76 4)) } := if_pos h

/-- `int_le` inverts `le32` and `le256`, so every field gives back the bytes it was read from (40_header_codec.md R121). -/
theorem exists_deserialize_serialize {b : List Byte} (h : b.length = 80) :
    ∃ hd, deserialize b = some hd ∧ serialize hd = b := by
  refine ⟨_, deserialize_of_length h, ?_⟩
  have word (k : Nat) (hk : k + 4 ≤ 80) : le32 (BitVec.ofNat 32 (intLe (slice b k 4))) = slice b k 4 :=
    le32_ofNat_intLe _ (length_slice_of_le (h ▸ hk))
  have value (k : Nat) (hk : k + 32 ≤ 80) : le256 (BitVec.ofNat 256 (intLe (slice b k 32))) = slice b k 32 :=
    le256_ofNat_intLe _ (length_slice_of_le (h ▸ hk))
  rw [serialize, word 0 (by decide), value 4 (by decide), value 36 (by decide), word 68 (by decide), word 72 (by decide),
    word 76 (by decide)]
  simp only [slice_zero_append_slice, Nat.reduceAdd]
  exact slice_zero_of_length h

theorem le32_injective : Function.Injective le32 :=
  Function.LeftInverse.injective (g := fun b => BitVec.ofNat 32 (intLe b)) ofNat_intLe_le32

theorem le256_injective : Function.Injective le256 :=
  Function.LeftInverse.injective (g := fun b => BitVec.ofNat 256 (intLe b)) ofNat_intLe_le256

/-- Each field occupies its own bytes (40_header_codec.md R121). -/
theorem serialize_injective : Function.Injective serialize := by
  intro g h heq
  obtain ⟨heq, hnonce⟩ := List.append_inj' heq rfl
  obtain ⟨heq, hbits⟩ := List.append_inj' heq rfl
  obtain ⟨heq, htime⟩ := List.append_inj' heq rfl
  obtain ⟨heq, hmerkle⟩ := List.append_inj' heq (by simp only [length_le256])
  obtain ⟨hversion, hprev⟩ := List.append_inj' heq (by simp only [length_le256])
  cases g
  cases h
  simp only [Header.mk.injEq]
  exact ⟨le32_injective hversion, le256_injective hprev, le256_injective hmerkle, le32_injective htime,
    le32_injective hbits, le32_injective hnonce⟩

/-- A header is the only one with its bytes, so it is the one they deserialise to. -/
theorem deserialize_serialize (h : Header) : deserialize (serialize h) = some h := by
  obtain ⟨g, hg, hserialize⟩ := exists_deserialize_serialize (length_serialize h)
  rw [hg, serialize_injective hserialize]

/-! ### Blocks of a padded message -/

theorem parseBlock_zero {b : List Word} (hb : b.length = 16) (rest : List Byte) :
    parseBlock (b.flatMap be32 ++ rest) 0 = b := by
  apply List.ext_getElem (by simp [parseBlock, hb])
  intro t ht _
  have ht : t < 16 := by simpa [parseBlock] using ht
  have hslice : slice (b.flatMap be32 ++ rest) (64 * 0 + 4 * t) 4 = be32 b[t] := by
    rw [slice_append_of_le _ (by rw [length_flatMap_be32]; omega), Nat.mul_zero, Nat.zero_add]
    exact slice_flatMap length_be32 (by simp)
  simp only [parseBlock, List.getElem_map, List.getElem_range, hslice, ofNat_intBe_be32]

theorem parseBlock_succ {a : List Byte} (ha : a.length = 64) (rest : List Byte) (i : Nat) :
    parseBlock (a ++ rest) (i + 1) = parseBlock rest i := by
  apply List.map_congr_left
  intro t _
  rw [show 64 * (i + 1) + 4 * t = 64 + (64 * i + 4 * t) by omega, slice_append_add _ _ _ ha]

theorem map_parseBlock_flatten {bs : List (List Word)} (hbs : ∀ b ∈ bs, b.length = 16) :
    (List.range bs.length).map (parseBlock (bs.flatten.flatMap be32)) = bs := by
  induction bs with
  | nil => rfl
  | cons b bs ih =>
    obtain ⟨hb, hbs⟩ := List.forall_mem_cons.1 hbs
    have hlen : (b.flatMap be32).length = 64 := by simp [hb]
    rw [List.length_cons, List.range_succ_eq_map, List.map_cons, List.map_map, List.flatten_cons, List.flatMap_append,
      parseBlock_zero hb]
    simp [Function.comp_def, parseBlock_succ hlen, ih hbs]

/-- Parsing inverts writing the words most significant byte first: blocks of sixteen words whose bytes make up the padded
message are the blocks of the message (40_header_codec.md R125). -/
theorem messageBlocks_of_pad {m : List Byte} {bs : List (List Word)} (hbs : ∀ b ∈ bs, b.length = 16)
    (hpad : pad m = bs.flatten.flatMap be32) : messageBlocks m = bs := by
  have hlen : (pad m).length / 64 = bs.length := by
    have hsum : bs.flatten.length = bs.length * 16 := by
      rw [List.length_flatten, List.map_congr_left hbs]
      simp
    rw [hpad, length_flatMap_be32, hsum]
    omega
  rw [messageBlocks, hlen, hpad, map_parseBlock_flatten hbs]

/-- The padding of an 80-byte message as words (40_header_codec.md R131 (a)). -/
theorem pad_of_length_80 {m : List Byte} (h : m.length = 80) :
    pad m = m ++ ([0x80000000] ++ List.replicate 10 0 ++ [0x00000280] : List Word).flatMap be32 := by
  rw [pad, h, List.append_assoc, List.append_assoc]
  exact congrArg (m ++ ·) (by decide)

/-- The padding of a 32-byte message as words (40_header_codec.md R131 (b)). -/
theorem pad_of_length_32 {m : List Byte} (h : m.length = 32) :
    pad m = m ++ ([0x80000000] ++ List.replicate 6 0 ++ [0x00000100] : List Word).flatMap be32 := by
  rw [pad, h, List.append_assoc, List.append_assoc]
  exact congrArg (m ++ ·) (by decide)

theorem messageBlocks_serialize (h : Header) : messageBlocks (serialize h) =
    [((headerWords h).take 16).map bswap32,
      ((headerWords h).drop 16).map bswap32 ++ [0x80000000] ++ List.replicate 10 0 ++ [0x00000280]] := by
  apply messageBlocks_of_pad
  · simp
  · rw [pad_of_length_80 (length_serialize h), serialize_eq_flatMap, ← flatMap_be32_map_bswap32, ← List.flatMap_append]
    have hwords : (headerWords h).map bswap32 =
        ((headerWords h).take 16).map bswap32 ++ ((headerWords h).drop 16).map bswap32 := by
      rw [← List.map_append, List.take_append_drop]
    rw [hwords]
    simp only [List.flatten_cons, List.flatten_nil, List.append_nil, List.append_assoc]

theorem messageBlocks_sha256 (m : List Byte) : messageBlocks (sha256 m) =
    [(shaFinal m).words ++ [0x80000000] ++ List.replicate 6 0 ++ [0x00000100]] := by
  apply messageBlocks_of_pad
  · simp
  · rw [pad_of_length_32 (length_sha256 m), sha256, ← List.flatMap_append]
    simp

/-! ### The digest value -/

/-- The digest value is the double hash read as a little-endian integer (40_header_codec.md R132). -/
theorem le256_hash256 (m : List Byte) : le256 (hash256 m) = sha256 (sha256 m) :=
  le256_ofNat_intLe _ (length_sha256 _)

/-- Word `j` of the digest value and chaining word `j` have the same four bytes in opposite orders
(40_header_codec.md R133). -/
theorem wordOf_hash256 {m : List Byte} {j : Nat} {w : Word} (hw : (shaFinal (sha256 m)).words[j]? = some w) :
    wordOf (hash256 m) j = bswap32 w := by
  have hj : j < 8 := (List.getElem?_eq_some_iff.1 hw).1
  have hbytes : le32 (wordOf (hash256 m) j) = be32 w := by
    rw [← slice_le256 _ hj, le256_hash256, sha256]
    exact slice_flatMap length_be32 hw
  rw [← ofNat_intLe_le32 (wordOf (hash256 m) j), hbytes, bswap32]

theorem hexPairs_hash256 (m : List Byte) : hexPairs (hash256 m) = (sha256 (sha256 m)).reverse := by
  rw [hexPairs, le256_hash256]

/-! ### The command HASH -/

theorem exec_hash_of_idle {s : State} (h : s.phase = .idle) :
    exec .hash s = .next { s with digest := headerDigest s.header } := if_pos h

theorem exec_hash_of_ne_idle {s : State} (h : s.phase ≠ .idle) : exec .hash s = .next (s.raise .state 0x000001) :=
  if_neg h

end Sys2Proof.Machine

namespace Sys2Proof.Proofs

open Sys2Proof.Machine

/-- Settles O33: the two branches of HASH. -/
theorem hashCommandWritesDigest : Obligations.HashCommandWritesDigest :=
  fun _ => ⟨exec_hash_of_idle, exec_hash_of_ne_idle⟩

/-- Settles O35: the padded message is the bytes of the stated words, and parsing gives those words back. -/
theorem hashedBlocks : Obligations.HashedBlocks :=
  ⟨messageBlocks_serialize, messageBlocks_sha256⟩

/-- Settles O36: the digest value's 32 bytes are the double hash, word by word and reversed as a whole. -/
theorem digestWordsAreSwappedChainingWords : Obligations.DigestWordsAreSwappedChainingWords :=
  fun m => ⟨length_words _, fun _ _ => wordOf_hash256, hexPairs_hash256 m⟩

/-- Settles O37: `int_le` gives every field's bytes back, and no two headers share their bytes. -/
theorem serializeRoundTrip : Obligations.SerializeRoundTrip :=
  ⟨fun h => ⟨length_serialize h, deserialize_serialize h⟩, fun _ => exists_deserialize_serialize⟩

end Sys2Proof.Proofs
end

section
/-! Proofs about the target decoder (41_target_decoder.md): the decoded integer as a shifted magnitude, what of it lies below
bit 256, its words, and the command DECODE. -/

namespace Sys2Proof.Machine

/-! ### The decoded integer -/

theorem ctMagnitude_lt (bits : Word) : ctMagnitude bits < 2 ^ 23 := (bits.extractLsb' 0 23).isLt

theorem ctFull_of_le_three {bits : Word} (h : ctExponent bits ≤ 3) :
    ctFull bits = ctMagnitude bits / 2 ^ (8 * (3 - ctExponent bits)) := if_pos h

theorem ctFull_of_three_lt {bits : Word} (h : 3 < ctExponent bits) :
    ctFull bits = ctMagnitude bits * 2 ^ (8 * (ctExponent bits - 3)) := if_neg (Nat.not_le.2 h)

theorem toNat_decodeCompact_value (bits : Word) : (decodeCompact bits).value.toNat = ctFull bits % 2 ^ 256 :=
  BitVec.toNat_ofNat _ _

theorem decodeCompact_ovf (bits : Word) : (decodeCompact bits).ovf = true ↔ 2 ^ 256 ≤ ctFull bits := decide_eq_true_iff

/-- A decoded integer that fits in 256 bits is the value, without overflow. -/
theorem decodeCompact_of_ctFull_lt {bits : Word} (h : ctFull bits < 2 ^ 256) :
    (decodeCompact bits).value.toNat = ctFull bits ∧ (decodeCompact bits).ovf = false :=
  ⟨(toNat_decodeCompact_value bits).trans (Nat.mod_eq_of_lt h), decide_eq_false (Nat.not_le.2 h)⟩

theorem decodeCompact_of_le_three {bits : Word} (h : ctExponent bits ≤ 3) :
    (decodeCompact bits).value.toNat = ctMagnitude bits / 2 ^ (8 * (3 - ctExponent bits)) ∧
      (decodeCompact bits).ovf = false := by
  rw [← ctFull_of_le_three h]
  apply decodeCompact_of_ctFull_lt
  calc ctFull bits ≤ ctMagnitude bits := ctFull_of_le_three h ▸ Nat.div_le_self _ _
    _ < 2 ^ 23 := ctMagnitude_lt bits
    _ < 2 ^ 256 := by decide

/-- Up to exponent 32 the 23 bits of the magnitude stay below bit 255. -/
theorem decodeCompact_of_le_32 {bits : Word} (h3 : 3 < ctExponent bits) (h32 : ctExponent bits ≤ 32) :
    (decodeCompact bits).value.toNat = ctMagnitude bits * 2 ^ (8 * (ctExponent bits - 3)) ∧
      (decodeCompact bits).ovf = false := by
  rw [← ctFull_of_three_lt h3]
  apply decodeCompact_of_ctFull_lt
  calc ctFull bits = ctMagnitude bits * 2 ^ (8 * (ctExponent bits - 3)) := ctFull_of_three_lt h3
    _ ≤ ctMagnitude bits * 2 ^ 232 := Nat.mul_le_mul_left _ (Nat.pow_le_pow_right (by decide) (by omega))
    _ < 2 ^ 23 * 2 ^ 232 := Nat.mul_lt_mul_of_pos_right (ctMagnitude_lt bits) (Nat.two_pow_pos _)
    _ < 2 ^ 256 := by decide

/-- A left shift by `k` that leaves room for `n` bits of the magnitude keeps those bits and overflows when there are more
(41_target_decoder.md R152). -/
theorem decodeCompact_of_shift {bits : Word} {n k : Nat} (h3 : 3 < ctExponent bits)
    (hk : 8 * (ctExponent bits - 3) = k) (hn : n + k = 256) :
    (decodeCompact bits).value.toNat = ctMagnitude bits % 2 ^ n * 2 ^ k ∧
      ((decodeCompact bits).ovf = true ↔ 2 ^ n ≤ ctMagnitude bits) := by
  rw [toNat_decodeCompact_value, decodeCompact_ovf, ctFull_of_three_lt h3, hk, ← hn, Nat.pow_add]
  exact ⟨Nat.mul_mod_mul_right .., Nat.mul_le_mul_right_iff (Nat.two_pow_pos k)⟩

/-- From exponent 35 every bit of the magnitude lands above bit 255 (41_target_decoder.md R151). -/
theorem decodeCompact_of_35_le {bits : Word} (h : 35 ≤ ctExponent bits) :
    (decodeCompact bits).value = 0 ∧ ((decodeCompact bits).ovf = true ↔ ctMagnitude bits ≠ 0) := by
  have hdvd : 2 ^ 256 ∣ ctFull bits := by
    rw [ctFull_of_three_lt (by omega)]
    exact Dvd.dvd.mul_left (Nat.pow_dvd_pow 2 (by omega)) _
  have hzero : ctFull bits = 0 ↔ ctMagnitude bits = 0 := by
    simp [ctFull_of_three_lt (show 3 < ctExponent bits by omega)]
  refine ⟨BitVec.eq_of_toNat_eq ((toNat_decodeCompact_value bits).trans (Nat.mod_eq_zero_of_dvd hdvd)), ?_⟩
  rw [decodeCompact_ovf, ne_eq, ← hzero]
  exact ⟨fun hle h0 => absurd (h0 ▸ hle) (by decide), fun h0 => Nat.le_of_dvd (Nat.pos_of_ne_zero h0) hdvd⟩

/-! ### The decoded target by words -/

/-- Cutting an integer to 256 bits keeps its words 0 to 7. -/
theorem mod_div_mod_of_lt_eight (n : Nat) {j : Nat} (hj : j < 8) :
    n % 2 ^ 256 / 2 ^ (32 * j) % 2 ^ 32 = n / 2 ^ (32 * j) % 2 ^ 32 := by
  have hsplit : 2 ^ 256 = 2 ^ (32 * j) * 2 ^ (256 - 32 * j) := by
    rw [← Nat.pow_add, Nat.add_sub_cancel' (by omega)]
  rw [hsplit, Nat.mod_mul_right_div_self, Nat.mod_mod_of_dvd _ (Nat.pow_dvd_pow 2 (by omega))]

/-- The words of a two-word integer shifted up by `q` whole words. -/
theorem word_of_shifted {p : Nat} (hp : p < 2 ^ 64) (q j : Nat) :
    p * 2 ^ (32 * q) / 2 ^ (32 * j) % 2 ^ 32 =
      if j = q then p % 2 ^ 32 else if j = q + 1 then p / 2 ^ 32 else 0 := by
  rcases Nat.lt_or_ge j q with hlt | hge
  · have hshift : 2 ^ (32 * q) = 2 ^ (32 * (q - j)) * 2 ^ (32 * j) := by
      rw [← Nat.pow_add]
      congr 1
      omega
    have hdvd : 2 ^ 32 ∣ p * 2 ^ (32 * (q - j)) := Dvd.dvd.mul_left (Nat.pow_dvd_pow 2 (by omega)) _
    rw [if_neg (by omega), if_neg (by omega), hshift, ← Nat.mul_assoc, Nat.mul_div_cancel _ (Nat.two_pow_pos _),
      Nat.mod_eq_zero_of_dvd hdvd]
  · obtain ⟨d, rfl⟩ := Nat.exists_eq_add_of_le' hge
    rw [Nat.mul_add, Nat.pow_add, Nat.mul_div_mul_right _ _ (Nat.two_pow_pos _)]
    match d with
    | 0 => simp
    | 1 =>
      rw [if_neg (by omega), if_pos (Nat.add_comm 1 q), Nat.mod_eq_of_lt (by omega)]
    | d + 2 =>
      have hzero : p / 2 ^ (32 * (d + 2)) = 0 :=
        Nat.div_eq_of_lt (hp.trans_le (Nat.pow_le_pow_right (by decide) (by omega)))
      rw [if_neg (by omega), if_neg (by omega), hzero, Nat.zero_mod]

/-- A two-word integer shifted up by `q ≤ 7` whole words passes bit 255 exactly with its upper word in word 8. -/
theorem le_shifted_iff {p q : Nat} (hp : p < 2 ^ 64) (hq : q ≤ 7) :
    2 ^ 256 ≤ p * 2 ^ (32 * q) ↔ q + 1 = 8 ∧ p / 2 ^ 32 ≠ 0 := by
  have hsplit : 2 ^ 256 = 2 ^ (256 - 32 * q) * 2 ^ (32 * q) := by
    rw [← Nat.pow_add, Nat.sub_add_cancel (by omega)]
  rw [hsplit, Nat.mul_le_mul_right_iff (Nat.two_pow_pos _)]
  rcases Nat.lt_or_eq_of_le hq with hlt | rfl
  · have hle : 2 ^ 64 ≤ 2 ^ (256 - 32 * q) := Nat.pow_le_pow_right (by decide) (by omega)
    exact iff_of_false (Nat.not_le.2 (hp.trans_le hle)) (by omega)
  · omega

/-- The shift of a left-shifting exponent in whole words and bits (41_target_decoder.md R161). -/
theorem ctFull_eq_shifted {bits : Word} (h : 3 < ctExponent bits) :
    ctFull bits = ctMagnitude bits * 2 ^ (8 * (ctExponent bits - 3) % 32) *
      2 ^ (32 * (8 * (ctExponent bits - 3) / 32)) := by
  rw [ctFull_of_three_lt h, Nat.mul_assoc, ← Nat.pow_add, Nat.mod_add_div]

theorem ctMagnitude_shifted_lt (bits : Word) (s : Nat) : ctMagnitude bits * 2 ^ (s % 32) < 2 ^ 64 :=
  calc ctMagnitude bits * 2 ^ (s % 32) < 2 ^ 23 * 2 ^ (s % 32) :=
        Nat.mul_lt_mul_of_pos_right (ctMagnitude_lt bits) (Nat.two_pow_pos _)
    _ ≤ 2 ^ 23 * 2 ^ 31 := Nat.mul_le_mul_left _ (Nat.pow_le_pow_right (by decide) (by omega))
    _ < 2 ^ 64 := by decide

/-! ### The command DECODE -/

/-- The effective target of R157, with its clamp written out. -/
theorem State.effTarget_eff (s : State) : s.effTarget.eff =
    if s.clamp = true then
      if (decodeCompact s.header.bits).value ≤ s.limit then (decodeCompact s.header.bits).value else s.limit
    else (decodeCompact s.header.bits).value := rfl

/-- The target flags of R157, TZERO from the effective target. -/
theorem State.effTarget_flags (s : State) : s.effTarget.flags =
    { tneg := (decodeCompact s.header.bits).neg
      tovf := (decodeCompact s.header.bits).ovf
      tclamped := s.clamp && decide (s.limit < (decodeCompact s.header.bits).value)
      tzero := decide (s.effTarget.eff = 0) } := rfl

theorem exec_decode_of_idle {s : State} (h : s.phase = .idle) : exec .decode s = .next s.latchTarget := if_pos h

theorem exec_decode_of_ne_idle {s : State} (h : s.phase ≠ .idle) :
    exec .decode s = .next (s.raise .state 0x000002) := if_neg h

end Sys2Proof.Machine

namespace Sys2Proof.Proofs

open Sys2Proof.Machine

/-- Settles O40: the exponent says where the magnitude's 23 bits land, and so what is cut off above bit 255. -/
theorem compactDecodeByExponent : Obligations.CompactDecodeByExponent := by
  intro bits
  refine ⟨rfl, decodeCompact_of_le_three, decodeCompact_of_le_32, fun (h : ctExponent bits = 33) => ?_,
    fun (h : ctExponent bits = 34) => ?_, decodeCompact_of_35_le⟩
  · exact decodeCompact_of_shift (n := 16) (k := 240) (by omega) (by omega) rfl
  · exact decodeCompact_of_shift (n := 8) (k := 248) (by omega) (by omega) rfl

/-- Settles O41: the decoded integer is the two-word product `M · 2^r` shifted up by `q` words. -/
theorem compactDecodeByWords : Obligations.CompactDecodeByWords := by
  intro bits j hj e m q r h4 h34
  have hp : m * 2 ^ r < 2 ^ 64 := ctMagnitude_shifted_lt bits _
  have hfull : ctFull bits = m * 2 ^ r * 2 ^ (32 * q) := ctFull_eq_shifted h4
  constructor
  · rw [toNat_wordOf, toNat_decodeCompact_value, mod_div_mod_of_lt_eight _ hj, hfull, word_of_shifted hp]
  · rw [decodeCompact_ovf, hfull, le_shifted_iff hp (by omega)]

/-- Settles O42: LatchTarget writes the effective target and its flags; outside Idle DECODE raises E_STATE. -/
theorem decodeCommandLatchesTheTarget : Obligations.DecodeCommandLatchesTheTarget := by
  intro s d eff
  refine ⟨fun h => ?_, exec_decode_of_ne_idle⟩
  rw [exec_decode_of_idle h, State.latchTarget, State.effTarget_flags, State.effTarget_eff]

end Sys2Proof.Proofs
end

section
/-! Proofs about the 256-bit comparison (42_uint256_compare.md): the words below `j` decide as the integers they make up, and
the command COMPARE. -/

namespace Sys2Proof.Machine

/-! ### The order of the integers, word by word -/

/-- The words 0 to `j` of a value are the words below `j` and word `j`, with its weight (10_state.md R21). -/
theorem toNat_mod_succ_eq_add_wordOf (v : U256) (j : Nat) :
    v.toNat % 2 ^ (32 * (j + 1)) = v.toNat % 2 ^ (32 * j) + 2 ^ (32 * j) * (wordOf v j).toNat := by
  rw [Nat.mul_add_one, Nat.pow_add, Nat.mod_mul, toNat_wordOf]

/-- The first differing word from the top decides, whatever stands below it (42_uint256_compare.md R171). -/
theorem toNat_mod_succ_lt_of_wordOf_lt {a b : U256} {j : Nat} (h : wordOf a j < wordOf b j) :
    a.toNat % 2 ^ (32 * (j + 1)) < b.toNat % 2 ^ (32 * (j + 1)) := by
  rw [toNat_mod_succ_eq_add_wordOf, toNat_mod_succ_eq_add_wordOf]
  calc a.toNat % 2 ^ (32 * j) + 2 ^ (32 * j) * (wordOf a j).toNat
      < 2 ^ (32 * j) + 2 ^ (32 * j) * (wordOf a j).toNat :=
        Nat.add_lt_add_right (Nat.mod_lt _ (Nat.two_pow_pos _)) _
    _ = 2 ^ (32 * j) * ((wordOf a j).toNat + 1) := by rw [Nat.mul_add_one, Nat.add_comm]
    _ ≤ 2 ^ (32 * j) * (wordOf b j).toNat := Nat.mul_le_mul_left _ (BitVec.lt_def.1 h)
    _ ≤ b.toNat % 2 ^ (32 * j) + 2 ^ (32 * j) * (wordOf b j).toNat := Nat.le_add_left _ _

/-- Comparing the words below `j` compares the integers that they make up. -/
theorem compareBelow_eq_compare_mod (a b : U256) (j : Nat) :
    compareBelow a b j = compare (a.toNat % 2 ^ (32 * j)) (b.toNat % 2 ^ (32 * j)) := by
  induction j with
  | zero => simp [compareBelow, Nat.mod_one]
  | succ j ih =>
    rw [compareBelow]
    split
    next hlt => exact (compare_lt_iff_lt.2 (toNat_mod_succ_lt_of_wordOf_lt hlt)).symm
    next hnlt =>
      split
      next hgt => exact (compare_gt_iff_gt.2 (toNat_mod_succ_lt_of_wordOf_lt hgt)).symm
      next hngt =>
        have hword : wordOf a j = wordOf b j := BitVec.le_antisymm (BitVec.not_lt.1 hngt) (BitVec.not_lt.1 hnlt)
        rw [ih, toNat_mod_succ_eq_add_wordOf a, toNat_mod_succ_eq_add_wordOf b, hword]
        simp [Nat.compare_eq_ite_lt]

/-- Eight words are the whole value, so the comparison is that of the integers (42_uint256_compare.md R170). -/
theorem compare256_eq_compare_toNat (a b : U256) : compare256 a b = compare a.toNat b.toNat := by
  rw [compare256, compareBelow_eq_compare_mod, Nat.mod_eq_of_lt a.isLt, Nat.mod_eq_of_lt b.isLt]

/-! ### The command COMPARE -/

/-- The compare flags as the relations of the two integers (42_uint256_compare.md R172). -/
theorem compareFlags_compare256 (a b : U256) : compareFlags (compare256 a b) =
    { lt := decide (a.toNat < b.toNat), eq := decide (a = b), le := decide (a.toNat ≤ b.toNat) } := by
  simp only [compare256_eq_compare_toNat, BitVec.toNat_eq]
  rcases Nat.lt_trichotomy a.toNat b.toNat with hlt | heq | hgt
  · simp [compareFlags, compare_lt_iff_lt.2 hlt, hlt, hlt.ne, hlt.le]
  · simp [compareFlags, heq]
  · simp [compareFlags, compare_gt_iff_gt.2 hgt, hgt, hgt.ne', hgt.le]

theorem exec_compare_of_idle {s : State} (h : s.phase = .idle) :
    exec .compare s = .next { s with cmp := compareFlags (compare256 s.digest s.target) } := if_pos h

theorem exec_compare_of_ne_idle {s : State} (h : s.phase ≠ .idle) :
    exec .compare s = .next (s.raise .state 0x000003) := if_neg h

end Sys2Proof.Machine

namespace Sys2Proof.Proofs

open Sys2Proof.Machine

/-- Settles O43: the order of the integers read off the comparison's answer. -/
theorem compareIsTheIntegerOrder : Obligations.CompareIsTheIntegerOrder := by
  intro a b
  rw [compare256_eq_compare_toNat]
  exact ⟨compare_lt_iff_lt, compare_eq_iff_eq, compare_gt_iff_gt⟩

/-- Settles O44: in Idle the three flags are those of the integer order; outside Idle COMPARE raises E_STATE. -/
theorem compareCommandWritesFlags : Obligations.CompareCommandWritesFlags := by
  refine fun s => ⟨fun h => ?_, exec_compare_of_ne_idle⟩
  rw [exec_compare_of_idle h, compareFlags_compare256]

end Sys2Proof.Proofs
end

section
/-! Proofs about the sequential search (43_pow_search.md): which engine step is enabled, and what the commands ADVANCE, START,
STOP, ACK, NOP and the engine steps ATTEMPT and SEQ_CANCEL do. -/

namespace Sys2Proof.Machine

/-! ### The enabled engine steps -/

theorem enabledSteps_of_sequential {s : State} (hp : s.phase = .searching) (hm : s.multi = false) :
    enabledSteps s = [if s.cancel = true then .seqCancel else .attempt] := by
  cases hc : s.cancel <;> simp [enabledSteps, hp, hm, hc]

theorem enabledSteps_of_ne_searching {s : State} (h : s.phase ≠ .searching) : enabledSteps s = [] := if_neg h

theorem attempt_mem_enabledSteps (s : State) :
    Instr.attempt ∈ enabledSteps s ↔ s.phase = .searching ∧ s.multi = false ∧ s.cancel = false := by
  simp [mem_enabledSteps]

theorem seqCancel_mem_enabledSteps (s : State) :
    Instr.seqCancel ∈ enabledSteps s ↔ s.phase = .searching ∧ s.multi = false ∧ s.cancel = true := by
  simp [mem_enabledSteps]

/-! ### The command ADVANCE -/

/-- `Advance` on a header: NONCE steps, TIME when NONCE wraps to 0 (43_pow_search.md R185). -/
theorem Header.advanced_eq (h : Header) : h.advanced =
    { h with nonce := h.nonce + 1, time := if h.nonce + 1 = 0 then h.time + 1 else h.time } := rfl

theorem toNat_add_one (w : Word) : (w + 1).toNat = (w.toNat + 1) % 2 ^ 32 := BitVec.toNat_add w 1

theorem exec_advance_of_idle {s : State} (h : s.phase = .idle) :
    exec .advance s = .next { s with header := s.header.advanced } := if_pos h

theorem exec_advance_of_ne_idle {s : State} (h : s.phase ≠ .idle) :
    exec .advance s = .next (s.raise .state 0x000004) := if_neg h

/-! ### The command START -/

theorem State.badConfig_iff (s : State) :
    s.badConfig = true ↔ s.multi = true ∧ (s.nwork = 0 ∨ s.nlanes.toNat < s.nwork.toNat ∨ s.range = 0) := by
  simp [State.badConfig, or_assoc]

theorem State.startError_of_ne_idle {s : State} (h : s.phase ≠ .idle) : s.startError = some .state := if_pos h

theorem State.startError_of_badConfig {s : State} (hp : s.phase = .idle) (hb : s.badConfig = true) :
    s.startError = some .config := by
  simp [State.startError, hp, hb]

theorem State.startError_of_sign {s : State} (hp : s.phase = .idle) (hb : s.badConfig = false)
    (hs : ctSign s.header.bits = true) : s.startError = some .negTarget := by
  simp [State.startError, hp, hb, hs]

theorem exec_start_rejected {s : State} {code : ErrCode} (h : s.startError = some code) :
    exec .start s = .next (s.raise code 0x000005) := by
  simp only [exec, execStart, h]

theorem exec_start_accepted {s : State} (h : s.startError = none) :
    exec .start s = .next (if s.multi = true then s.startSearch.startWorkers else s.startSearch) := by
  simp only [exec, execStart, h]

/-- What a START writes in both modes, and what in multi mode only (43_pow_search.md R187). -/
theorem State.started_eq (s : State) : (if s.multi = true then s.startSearch.startWorkers else s.startSearch) =
    { s with
      target := s.effTarget.eff, tflags := s.effTarget.flags
      hashCnt := 0, claim := 0, cancel := false, winner := false, phase := .searching
      baseNonce := if s.multi = true then s.header.nonce else s.baseNonce
      baseTime := if s.multi = true then s.header.time else s.baseTime
      lanes := if s.multi = true then startLanes s.nlanes.toNat s.nwork.toNat else s.lanes } := by
  split <;> rfl

/-! ### The commands STOP and ACK -/

theorem exec_stop_of_searching {s : State} (h : s.phase = .searching) :
    exec .stop s = .next { s with cancel := true } := by
  simp only [exec, execStop, if_pos h]

theorem exec_stop_of_ne_searching {s : State} (h : s.phase ≠ .searching) : exec .stop s = .next s := by
  simp only [exec, execStop, if_neg h]

theorem exec_ack_of_searching {s : State} (h : s.phase = .searching) :
    exec .ack s = .next (s.raise .state 0x000007) := by
  simp only [exec, execAck, h]

theorem exec_ack_of_found {s : State} (h : s.phase = .found) :
    exec .ack s = .next { s with phase := .idle, winner := false } := by
  simp only [exec, execAck, h]

theorem exec_ack_of_idle {s : State} (h : s.phase = .idle) : exec .ack s = .next s := by
  simp only [exec, execAck, h]

/-! ### The engine step ATTEMPT -/

theorem State.attemptEnabled_iff (s : State) :
    s.attemptEnabled = true ↔ s.phase = .searching ∧ s.multi = false ∧ s.cancel = false := by
  simp [State.attemptEnabled, and_assoc]

theorem exec_attempt_of_le {s : State} (he : s.attemptEnabled = true) (hd : headerDigest s.header ≤ s.target) :
    exec .attempt s = .next (s.attemptWins (headerDigest s.header)) := by
  simp only [exec, execAttempt, if_pos he, if_pos hd]

theorem exec_attempt_of_lt {s : State} (he : s.attemptEnabled = true) (hd : s.target < headerDigest s.header) :
    exec .attempt s = .next (s.attemptFails (headerDigest s.header)) := by
  simp only [exec, execAttempt, if_pos he, if_neg (BitVec.not_le.2 hd)]

theorem State.attemptWins_eq (s : State) (d : U256) : s.attemptWins d =
    { s with
      digest := d, hashCnt := s.hashCnt + 1, phase := .found, winner := true
      foundCnt := s.foundCnt + 1, irqStatus := s.irqStatus ||| 0b0001 } := rfl

/-- The progress test of the pseudocode (43_pow_search.md R189; log 21). -/
theorem progressDue_iff (interval : Word) (cnt : U64) :
    progressDue interval cnt = true ↔ interval ≠ 0 ∧ cnt.toNat % interval.toNat = 0 := by
  simp [progressDue]

/-- A failing attempt advances the candidate and takes the snapshot when it is due (43_pow_search.md R189, R192). -/
theorem State.attemptFails_eq (s : State) (d : U256) : s.attemptFails d =
    { s with
      digest := d, hashCnt := s.hashCnt + 1, header := s.header.advanced
      progCnt := if progressDue s.progInterval (s.hashCnt + 1) then s.hashCnt + 1 else s.progCnt
      progDigest := if progressDue s.progInterval (s.hashCnt + 1) then d else s.progDigest
      irqStatus :=
        if progressDue s.progInterval (s.hashCnt + 1) then s.irqStatus ||| 0b0010 else s.irqStatus } := by
  rw [State.attemptFails, State.noteProgress_eq, State.noteProgress_progCnt, State.noteProgress_progDigest,
    State.noteProgress_irqStatus]
  rfl

/-! ### The engine step SEQ_CANCEL -/

theorem State.seqCancelEnabled_iff (s : State) :
    s.seqCancelEnabled = true ↔ s.phase = .searching ∧ s.multi = false ∧ s.cancel = true := by
  simp [State.seqCancelEnabled, and_assoc]

theorem exec_seqCancel_of_enabled {s : State} (h : s.seqCancelEnabled = true) : exec .seqCancel s =
    .next { s with phase := .idle, cancel := false, irqStatus := s.irqStatus ||| 0b1000 } := if_pos h

end Sys2Proof.Machine

namespace Sys2Proof.Proofs

open Sys2Proof.Machine

/-- Settles O12: the list of enabled steps is a singleton chosen by CANCEL, and empty outside Searching. -/
theorem sequentialModeHasOneEnabledStep : Obligations.SequentialModeHasOneEnabledStep := by
  refine fun s i => ⟨fun hp hm => ?_, fun hp => ?_⟩
  · rw [enabledSteps_of_sequential hp hm]
    exact ⟨List.mem_singleton, rfl⟩
  · rw [enabledSteps_of_ne_searching hp]
    exact List.not_mem_nil

/-- Settles O45: Advance's two values as numbers below 2^32; outside Idle ADVANCE raises E_STATE. -/
theorem advanceCommandStepsTheCandidate : Obligations.AdvanceCommandStepsTheCandidate := by
  refine fun s => ⟨fun h => ?_, exec_advance_of_ne_idle⟩
  rw [exec_advance_of_idle h, Header.advanced_eq]
  exact ⟨_, _, rfl, toNat_add_one _, by rw [apply_ite BitVec.toNat, toNat_add_one]⟩

/-- Settles O46: each rejection is the first in priority that applies; with none the start is accepted. -/
theorem startCommand : Obligations.StartCommand := by
  intro s badConfig d eff
  have hgood (hb : ¬badConfig) : s.badConfig = false := Bool.eq_false_iff.2 (mt s.badConfig_iff.1 hb)
  refine ⟨fun hp => exec_start_rejected (State.startError_of_ne_idle hp),
    fun hp hb => exec_start_rejected (State.startError_of_badConfig hp (s.badConfig_iff.2 hb)),
    fun hp hb hs => exec_start_rejected (State.startError_of_sign hp (hgood hb) hs), fun hp hb hs => ?_⟩
  have hneg : d.neg = false := hs
  rw [exec_start_accepted (State.startError_eq_none.2 ⟨hp, hgood hb, hs⟩), State.started_eq, State.effTarget_flags,
    State.effTarget_eff, hneg]
  rfl

/-- Settles O47: STOP, ACK and NOP by STATE. -/
theorem stopAckAndNopCommands : Obligations.StopAckAndNopCommands :=
  fun _ => ⟨exec_stop_of_searching, exec_stop_of_ne_searching, exec_ack_of_searching, exec_ack_of_found,
    exec_ack_of_idle, rfl⟩

/-- Settles O48: the two branches of ATTEMPT, with the digest held as a variable where states are compared. -/
theorem sequentialAttempt : Obligations.SequentialAttempt := by
  refine fun s => ⟨attempt_mem_enabledSteps s, fun hp hm hc => ?_⟩
  have he : s.attemptEnabled = true := s.attemptEnabled_iff.2 ⟨hp, hm, hc⟩
  intro d cnt due
  refine ⟨fun hd => ?_, fun hd => ?_⟩
  · rw [exec_attempt_of_le he (BitVec.le_def.2 hd), State.attemptWins_eq]
  · rw [exec_attempt_of_lt he (BitVec.lt_def.2 hd), State.attemptFails_eq, Header.advanced_eq]
    simp only [progressDue_iff, due, cnt, d]

/-- Settles O49: SEQ_CANCEL where it is enabled. -/
theorem sequentialCancelStops : Obligations.SequentialCancelStops :=
  fun s => ⟨seqCancel_mem_enabledSteps s,
    fun hp hm hc => exec_seqCancel_of_enabled (s.seqCancelEnabled_iff.2 ⟨hp, hm, hc⟩)⟩

end Sys2Proof.Proofs
end

section
/-! Proofs about the search in multi mode (44_multi_worker.md): the candidates in the order in which Advance reaches them,
which engine step of the lanes is enabled, and what LANE_CLAIM, LANE_ATTEMPT and FINISH do. -/

namespace Sys2Proof.Machine

/-! ### Candidates -/

theorem toNat_cand_nonce (n0 t0 : Word) (k : Nat) : (cand n0 t0 k).1.toNat = (n0.toNat + k) % 2 ^ 32 :=
  BitVec.toNat_ofNat _ _

theorem toNat_cand_time (n0 t0 : Word) (k : Nat) :
    (cand n0 t0 k).2.toNat = (t0.toNat + (n0.toNat + k) / 2 ^ 32) % 2 ^ 32 := by
  rw [cand, BitVec.toNat_add, BitVec.toNat_ofNat, Nat.add_mod_mod]

theorem cand_zero (n0 t0 : Word) : cand n0 t0 0 = (n0, t0) := by
  rw [cand, Nat.add_zero, Nat.div_eq_of_lt n0.isLt]
  simp

/-- The word of a number is 0 where the number is a multiple of 2^32, which is where `n / 2^32` has just stepped. -/
theorem ofNat_succ_div_two_pow (n : Nat) : BitVec.ofNat 32 ((n + 1) / 2 ^ 32) =
    if BitVec.ofNat 32 (n + 1) = 0 then BitVec.ofNat 32 (n / 2 ^ 32) + 1 else BitVec.ofNat 32 (n / 2 ^ 32) := by
  have hwrap : BitVec.ofNat 32 (n + 1) = 0 ↔ 2 ^ 32 ∣ n + 1 := by
    rw [← BitVec.toNat_inj, BitVec.toNat_ofNat, Nat.dvd_iff_mod_eq_zero]
    rfl
  simp only [Nat.succ_div, hwrap]
  split
  · exact BitVec.ofNat_add _ _
  · rfl

/-- The next candidate is one `Advance` further: TIME steps where NONCE wraps to 0 (43_pow_search.md R185). -/
theorem cand_succ (n0 t0 : Word) (k : Nat) : cand n0 t0 (k + 1) = advance (cand n0 t0 k) := by
  have hnonce : BitVec.ofNat 32 (n0.toNat + k) + 1 = BitVec.ofNat 32 (n0.toNat + k + 1) := (BitVec.ofNat_add _ _).symm
  rw [advance, cand, cand, hnonce, ← Nat.add_assoc, ofNat_succ_div_two_pow]
  split <;> simp [BitVec.add_assoc]

theorem cand_eq_iterate_advance (n0 t0 : Word) (k : Nat) : cand n0 t0 k = advance^[k] (n0, t0) := by
  induction k with
  | zero => exact cand_zero n0 t0
  | succ k ih => rw [cand_succ, ih, Function.iterate_succ_apply']

/-! ### The enabled engine steps -/

theorem laneClaim_mem_enabledSteps (s : State) (i : Nat) :
    Instr.laneClaim i ∈ enabledSteps s ↔ s.phase = .searching ∧ s.multi = true ∧ s.lane i = .claim := by
  simp [mem_enabledSteps]

theorem laneAttempt_mem_enabledSteps (s : State) (i : Nat) : Instr.laneAttempt i ∈ enabledSteps s ↔
    s.phase = .searching ∧ s.multi = true ∧ ∃ base idx, s.lane i = .work base idx := by
  simp [mem_enabledSteps]

theorem finish_mem_enabledSteps (s : State) : Instr.finish ∈ enabledSteps s ↔
    s.phase = .searching ∧ s.multi = true ∧ ∀ l, l ∈ s.lanes → l = .off := by
  simp [mem_enabledSteps, State.allLanesOff_iff]

/-- FINISH is enabled only after a STOP or a winner (44_multi_worker.md R222). -/
theorem State.Inv.cancel_of_finish_mem {s : State} (hinv : s.Inv) (h : Instr.finish ∈ enabledSteps s) :
    s.cancel = true := by
  obtain ⟨hp, hm, hoff⟩ := (finish_mem_enabledSteps s).1 h
  by_contra hc
  have hworking : s.allLanesOff = false := hinv.stillWorking hp hm (Bool.eq_false_iff.2 hc)
  exact Bool.eq_false_iff.1 hworking (s.allLanesOff_iff.2 hoff)

/-! ### The engine step LANE_CLAIM -/

theorem State.laneClaimEnabled_iff (s : State) (i : Nat) :
    s.laneClaimEnabled i = true ↔ s.phase = .searching ∧ s.multi = true ∧ s.lane i = .claim := by
  simp [State.laneClaimEnabled, and_assoc]

theorem exec_laneClaim_of_cancelled {s : State} {i : Nat} (he : s.laneClaimEnabled i = true) (hc : s.cancel = true) :
    exec (.laneClaim i) s = .next { s with lanes := s.lanes.set i .off } := by
  simp only [exec, execLaneClaim, if_pos he, if_pos hc, State.setLane]

theorem exec_laneClaim_of_live {s : State} {i : Nat} (he : s.laneClaimEnabled i = true) (hc : s.cancel = false) :
    exec (.laneClaim i) s = .next
      { s with lanes := s.lanes.set i (.work s.claim 0), claim := s.claim + s.range.setWidth 64 } := by
  simp only [exec, execLaneClaim, if_pos he, if_neg (Bool.eq_false_iff.1 hc), State.setLane]

theorem toNat_add_setWidth (c : U64) (r : Word) : (c + r.setWidth 64).toNat = (c.toNat + r.toNat) % 2 ^ 64 := by
  rw [BitVec.toNat_add, BitVec.toNat_setWidth_of_le (by decide)]

/-! ### The engine step LANE_ATTEMPT -/

theorem exec_laneAttempt_of_win {s : State} {i : Nat} {base : U64} {idx : Nat} (hw : s.laneWork i = some (base, idx))
    (hd : headerDigest (s.laneHeader base idx) ≤ s.target) (hfirst : s.winner = false) : exec (.laneAttempt i) s =
      .next (s.laneWins i (s.laneHeader base idx) (headerDigest (s.laneHeader base idx))) := by
  simp only [exec, execLaneAttempt, hw, if_pos (And.intro hd hfirst)]

theorem exec_laneAttempt_of_no_win {s : State} {i : Nat} {base : U64} {idx : Nat}
    (hw : s.laneWork i = some (base, idx))
    (hn : s.target < headerDigest (s.laneHeader base idx) ∨ s.winner = true) : exec (.laneAttempt i) s =
      .next (s.laneGoesOn i base idx (headerDigest (s.laneHeader base idx))) := by
  have hno : ¬(headerDigest (s.laneHeader base idx) ≤ s.target ∧ s.winner = false) := by
    rintro ⟨hd, hfirst⟩
    rcases hn with hlt | hwon
    · exact BitVec.not_le.2 hlt hd
    · exact Bool.eq_false_iff.1 hfirst hwon
  simp only [exec, execLaneAttempt, hw, if_neg hno]

theorem State.laneWins_eq (s : State) (i : Nat) (h : Header) (d : U256) : s.laneWins i h d =
    { s with
      hashCnt := s.hashCnt + 1, winner := true, cancel := true, header := h, digest := d
      foundCnt := s.foundCnt + 1, irqStatus := s.irqStatus ||| 0b0001, lanes := s.lanes.set i .off } := rfl

/-- An attempt that does not win takes the snapshot when it is due and moves its lane on (44_multi_worker.md R220). -/
theorem State.laneGoesOn_eq (s : State) (i : Nat) (base : U64) (idx : Nat) (d : U256) : s.laneGoesOn i base idx d =
    { s with
      hashCnt := s.hashCnt + 1
      progCnt := if progressDue s.progInterval (s.hashCnt + 1) then s.hashCnt + 1 else s.progCnt
      progDigest := if progressDue s.progInterval (s.hashCnt + 1) then d else s.progDigest
      irqStatus := if progressDue s.progInterval (s.hashCnt + 1) then s.irqStatus ||| 0b0010 else s.irqStatus
      lanes := s.lanes.set i (if idx + 1 = s.range.toNat then .claim else .work base (idx + 1)) } := by
  rw [State.laneGoesOn, State.noteProgress_eq, State.noteProgress_progCnt, State.noteProgress_progDigest,
    State.noteProgress_irqStatus]
  rfl

/-! ### The engine step FINISH -/

theorem State.finishEnabled_iff (s : State) : s.finishEnabled = true ↔
    s.phase = .searching ∧ s.multi = true ∧ ∀ l, l ∈ s.lanes → l = .off := by
  simp [State.finishEnabled, State.allLanesOff_iff, and_assoc]

theorem exec_finish_of_winner {s : State} (he : s.finishEnabled = true) (hw : s.winner = true) :
    exec .finish s = .next { s with phase := .found, cancel := false } := by
  simp only [exec, execFinish, if_pos he, if_pos hw]

theorem exec_finish_of_no_winner {s : State} (he : s.finishEnabled = true) (hw : s.winner = false) :
    exec .finish s = .next { s with phase := .idle, cancel := false, irqStatus := s.irqStatus ||| 0b1000 } := by
  simp only [exec, execFinish, if_pos he, if_neg (Bool.eq_false_iff.1 hw), evStopped]

end Sys2Proof.Machine

namespace Sys2Proof.Proofs

open Sys2Proof.Machine

/-- Settles O50: the two values as numbers below 2^32, and by induction on `k` each candidate is one Advance further. -/
theorem candidatesFollowAdvance : Obligations.CandidatesFollowAdvance :=
  fun n0 t0 k => ⟨toNat_cand_nonce n0 t0 k, toNat_cand_time n0 t0 k, cand_eq_iterate_advance n0 t0 k⟩

/-- Settles O53: the two branches of LANE_CLAIM by CANCEL. -/
theorem laneClaimTakesARange : Obligations.LaneClaimTakesARange := by
  refine fun s i => ⟨laneClaim_mem_enabledSteps s i, fun hp hm hl => ?_⟩
  have he : s.laneClaimEnabled i = true := (s.laneClaimEnabled_iff i).2 ⟨hp, hm, hl⟩
  exact ⟨exec_laneClaim_of_cancelled he, fun hc => ⟨_, toNat_add_setWidth _ _, exec_laneClaim_of_live he hc⟩⟩

/-- Settles O54: the two branches of LANE_ATTEMPT, the attempted header being the model's laneHeader. -/
theorem laneAttempt : Obligations.LaneAttempt := by
  refine fun s i => ⟨laneAttempt_mem_enabledSteps s i, fun base idx hp hm hl => ?_⟩
  have hw : s.laneWork i = some (base, idx) := State.laneWork_eq_some.2 ⟨hp, hm, hl⟩
  intro c h d cnt due
  refine ⟨fun hd hfirst => ?_, fun hn => ?_⟩
  · have hd : headerDigest (s.laneHeader base idx) ≤ s.target := BitVec.le_def.2 hd
    rw [exec_laneAttempt_of_win hw hd hfirst, State.laneWins_eq]
    rfl
  · rw [exec_laneAttempt_of_no_win hw (hn.imp_left BitVec.lt_def.2), State.laneGoesOn_eq]
    simp only [progressDue_iff, due, cnt, d]
    rfl

/-- Settles O55: every lane Off without CANCEL would break the invariant; the two endings by WINNER. -/
theorem finishEndsTheSearch : Obligations.FinishEndsTheSearch := by
  refine fun s => ⟨finish_mem_enabledSteps s, State.Inv.cancel_of_finish_mem, fun hp hm hoff => ?_⟩
  have he : s.finishEnabled = true := s.finishEnabled_iff.2 ⟨hp, hm, hoff⟩
  exact ⟨exec_finish_of_winner he, exec_finish_of_no_winner he⟩

end Sys2Proof.Proofs
end

section
/-! Proofs about host access (45_host_access.md): the dispatch of a 4-byte write to CMD. -/

namespace Sys2Proof.Proofs

open Sys2Proof.Machine

/-- Settles O5: the write runs what its word decodes to, which for a reserved word is the rejection. -/
theorem writeToCmdRunsTheCommand : Obligations.WriteToCmdRunsTheCommand := by
  intro s
  refine ⟨exec_wr_cmd 0x00 s, exec_wr_cmd 0x01 s, exec_wr_cmd 0x02 s, exec_wr_cmd 0x03 s, exec_wr_cmd 0x04 s,
    exec_wr_cmd 0x05 s, exec_wr_cmd 0x06 s, exec_wr_cmd 0x07 s, exec_wr_cmd 0x08 s, fun w h => ?_⟩
  obtain ⟨hdecode, hrejected⟩ := reservedWordIsRejected w s h
  rw [exec_wr_cmd, hdecode, hrejected]

end Sys2Proof.Proofs
end

section
/-! Proofs about the bus encoding (30_encoding.md): encode and decodeAccess invert each other, on well-formed operations that
the host issues and on accesses in the window. -/

namespace Sys2Proof

/-! ### The command decoder and well-formedness -/

theorem reservedWord_iff (w : Word) : reservedWord w = true ↔ 8 < w.toNat := by
  simp [reservedWord, ← zeroField_ne_zero_or_lt_opc_iff, zeroField, opc]

/-- Every command word decodes to a well-formed operation of the host's. -/
theorem decodeCommand_wf (w : Word) : (decodeCommand w).wf = true ∧ (decodeCommand w).isEngineStep = false := by
  by_cases h : 8 < w.toNat
  · rw [decodeCommand_of_lt h]
    exact ⟨(reservedWord_iff w).2 h, rfl⟩
  · have hcodes : ∀ n < 9, (decodeCommand (BitVec.ofNat 32 n)).wf = true ∧
        (decodeCommand (BitVec.ofNat 32 n)).isEngineStep = false := by decide
    simpa using hcodes w.toNat (by omega)

/-! ### The bus decoder -/

theorem isCommandWrite_iff (offset : Offset) (size : Nat) :
    isCommandWrite offset size = true ↔ offset.toNat = cmdOffset ∧ size = 4 := by
  simp [isCommandWrite, cmdOffset, ← BitVec.toNat_inj]

theorem decodeAccess_commandAccess (w : Word) : decodeAccess (commandAccess w) = .ok (decodeCommand w) := rfl

theorem decodeAccess_read (offset : Offset) (size : Nat) :
    decodeAccess (.read offset.toNat size) = .ok (.rd offset size) := by
  simp [decodeAccess, offset.isLt]

theorem decodeAccess_write {offset : Offset} {size : Nat} (v : Word) (h : isCommandWrite offset size = false) :
    decodeAccess (.write offset.toNat size v) = .ok (.wr offset size v) := by
  have hplain : ¬(offset.toNat = cmdOffset ∧ size = 4) := mt (isCommandWrite_iff offset size).2 (Bool.eq_false_iff.1 h)
  simp [decodeAccess, offset.isLt, hplain]

theorem ofNat_toNat_of_window {offset : Nat} (h : offset < 0x1000) : (BitVec.ofNat 12 offset).toNat = offset :=
  Nat.mod_eq_of_lt h

/-- What an access in the window decodes to: a read, a command, or a plain write (30_encoding.md R98). -/
theorem decodeAccess_eq_ok {a : Access} {i : Instr} (h : decodeAccess a = .ok i) :
    (∃ (offset : Offset) (size : Nat), a = .read offset.toNat size ∧ i = .rd offset size) ∨
    (∃ w, a = commandAccess w ∧ i = decodeCommand w) ∨
    (∃ (offset : Offset) (size : Nat) (v : Word), isCommandWrite offset size = false ∧
      a = .write offset.toNat size v ∧ i = .wr offset size v) := by
  cases a with
  | read offset size =>
    simp only [decodeAccess] at h
    split at h
    next hin =>
      cases h
      exact .inl ⟨BitVec.ofNat 12 offset, size, by rw [ofNat_toNat_of_window hin], rfl⟩
    next => cases h
  | write offset size v =>
    simp only [decodeAccess] at h
    split at h
    next hin =>
      split at h
      next hcmd =>
        obtain ⟨rfl, rfl⟩ := hcmd
        cases h
        exact .inr (.inl ⟨v, rfl, rfl⟩)
      next hplain =>
        cases h
        refine .inr (.inr ⟨BitVec.ofNat 12 offset, size, v, ?_, by rw [ofNat_toNat_of_window hin], rfl⟩)
        rw [Bool.eq_false_iff, ne_eq, isCommandWrite_iff, ofNat_toNat_of_window hin]
        exact hplain
    next => cases h

/-- What an access decodes to is a well-formed operation of the host's that encodes to that access. -/
theorem encode_of_decodeAccess_eq_ok {a : Access} {i : Instr} (h : decodeAccess a = .ok i) :
    i.wf = true ∧ i.isEngineStep = false ∧ encode i = some a := by
  rcases decodeAccess_eq_ok h with ⟨offset, size, rfl, rfl⟩ | ⟨w, rfl, rfl⟩ | ⟨offset, size, v, hplain, rfl, rfl⟩
  · exact ⟨rfl, rfl, rfl⟩
  · exact ⟨(decodeCommand_wf w).1, (decodeCommand_wf w).2, encode_decodeCommand w⟩
  · exact ⟨by simp [Instr.wf, hplain], rfl, rfl⟩

end Sys2Proof

namespace Sys2Proof.Proofs

/-- Settles O3: a command by its word, a reserved word as the word above 8 that it is, a read or plain write by its offset. -/
theorem decodeInvertsEncode : Obligations.DecodeInvertsEncode := by
  intro i hwf hhost
  cases i with
  | nop | hash | decode | compare | advance | start | stop | ack | srst => exact ⟨_, rfl, rfl⟩
  | rd offset size => exact ⟨_, rfl, decodeAccess_read offset size⟩
  | wr offset size v => exact ⟨_, rfl, decodeAccess_write v (by simpa [Instr.wf] using hwf)⟩
  | reserved w =>
    refine ⟨commandAccess w, rfl, ?_⟩
    rw [decodeAccess_commandAccess, decodeCommand_of_lt ((reservedWord_iff w).1 hwf)]
  | attempt | seqCancel | laneClaim | laneAttempt | finish => cases hhost

/-- Settles O4: by the three forms of an access in the window. -/
theorem encodeInvertsDecode : Obligations.EncodeInvertsDecode :=
  fun _ _ => encode_of_decodeAccess_eq_ok

/-- Settles O2: each access evaluated. -/
theorem writtenOutAccessesDecode : Obligations.WrittenOutAccessesDecode :=
  ⟨rfl, rfl, rfl, rfl, rfl, rfl, rfl, rfl⟩

end Sys2Proof.Proofs
end

section
/-! Proofs about the step (00_scope.md R11): what each kind of input makes it do, that every operation of the host's has a next
state, and that an engine step has one exactly where it is enabled. -/

namespace Sys2Proof.Machine

/-! ### One step, by what the outside world does next -/

/-- An engine turn: the chosen step where one is enabled, and nothing elsewhere (log 17). -/
def engineTurn (choice : Nat) (s : State) : Host.Outcome State Fault Refusal :=
  match chosenStep s choice with
  | some i => exec i s
  | none => .next s

theorem step_of_fetch_run {s t : State} {i : Instr} (h : fetch s = .run i t) : step s = exec i t := by
  rw [step, h]

theorem step_of_bus {s : State} {a : Access} {rest : List Input} {i : Instr} (h : s.agenda = .bus a :: rest)
    (hd : decodeAccess a = .ok i) : step s = exec i { s with agenda := rest } := by
  simp only [step, fetch, h, fetchBus, hd]

theorem step_of_outside {s : State} {a : Access} {rest : List Input} {e : DecodeError} (h : s.agenda = .bus a :: rest)
    (hd : decodeAccess a = .error e) : step s = .next { s with agenda := rest } := by
  simp only [step, fetch, h, fetchBus, hd]

theorem step_of_reset {s : State} {rest : List Input} (h : s.agenda = .reset :: rest) :
    step s = .next ({ s with agenda := rest } : State).hardReset := by
  simp only [step, fetch, h]

theorem step_of_fetchEngine {s t : State} {choice : Nat} (h : fetch s = fetchEngine choice t) :
    step s = engineTurn choice t := by
  rw [step, h, fetchEngine, engineTurn]
  cases chosenStep t choice <;> rfl

theorem step_of_engine {s : State} {choice : Nat} {rest : List Input} (h : s.agenda = .engine choice :: rest) :
    step s = engineTurn choice { s with agenda := rest } :=
  step_of_fetchEngine (by simp only [fetch, h])

theorem step_of_silent {s : State} (h : s.agenda = []) :
    step s = engineTurn (Config.schedule s.ticks) { s with ticks := s.ticks + 1 } :=
  step_of_fetchEngine (by simp only [fetch, h])

/-! ### An engine turn -/

theorem engineTurn_of_chosen {s : State} {choice : Nat} {i : Instr} (h : chosenStep s choice = some i) :
    engineTurn choice s = exec i s := by
  rw [engineTurn, h]

theorem engineTurn_of_enabledSteps_eq_nil {s : State} (h : enabledSteps s = []) (choice : Nat) :
    engineTurn choice s = .next s := by
  rw [engineTurn, chosenStep_eq_none h]

/-- With a step enabled, an engine turn runs an enabled one (44_multi_worker.md R219). -/
theorem exists_engineTurn_eq_exec {s : State} (h : enabledSteps s ≠ []) (choice : Nat) :
    ∃ i ∈ enabledSteps s, engineTurn choice s = exec i s := by
  obtain ⟨i, hi⟩ := chosenStep_isSome h choice
  exact ⟨i, chosenStep_mem hi, engineTurn_of_chosen hi⟩

/-! ### Which operations have a next state -/

/-- A host operation other than a write has its effect or raises an error. -/
theorem exists_exec_eq_next_of_not_wr {i : Instr} (h : i.isEngineStep = false) (hi : ∀ o n v, i ≠ .wr o n v)
    (s : State) : ∃ t, exec i s = .next t := by
  cases i with
  | nop | stop | srst | reserved => exact ⟨_, rfl⟩
  | hash => simp only [exec, execHash]; split <;> exact ⟨_, rfl⟩
  | decode => simp only [exec, execDecode]; split <;> exact ⟨_, rfl⟩
  | compare => simp only [exec, execCompare]; split <;> exact ⟨_, rfl⟩
  | advance => simp only [exec, execAdvance]; split <;> exact ⟨_, rfl⟩
  | start => simp only [exec, execStart]; split <;> exact ⟨_, rfl⟩
  | ack => simp only [exec, execAck]; split <;> exact ⟨_, rfl⟩
  | rd => simp only [exec, execRd]; split <;> exact ⟨_, rfl⟩
  | wr o n v => exact absurd rfl (hi o n v)
  | attempt | seqCancel | laneClaim | laneAttempt | finish => cases h

/-- No operation of the host's is refused (60_exceptions.md R268). -/
theorem exists_exec_eq_next_of_host {i : Instr} (h : i.isEngineStep = false) (s : State) : ∃ t, exec i s = .next t := by
  by_cases hw : ∃ o n v, i = .wr o n v
  · obtain ⟨o, n, v, rfl⟩ := hw
    simp only [exec, execWr, writeEffect]
    split
    next => exact ⟨_, rfl⟩
    next =>
      split
      next =>
        rw [dispatchCommand_eq]
        exact exists_exec_eq_next_of_not_wr (decodeCommand_wf v).2 (decodeCommand_ne_wr v) s
      next => exact ⟨_, rfl⟩
      next => exact ⟨_, rfl⟩
  · exact exists_exec_eq_next_of_not_wr h (fun o n v e => hw ⟨o, n, v, e⟩) s

/-- An engine step's guard is its place in the list of enabled steps (43_pow_search.md R188; 44_multi_worker.md R219). -/
theorem exists_exec_eq_next_of_enabled {s : State} {i : Instr} (h : i ∈ enabledSteps s) : ∃ t, exec i s = .next t := by
  obtain ⟨hp, ⟨hm, hc, rfl⟩ | ⟨hm, hc, rfl⟩ | ⟨hm, ⟨k, hl, rfl⟩ | ⟨k, base, idx, hl, rfl⟩ | ⟨hoff, rfl⟩⟩⟩ :=
    (mem_enabledSteps s i).1 h
  · exact ⟨_, if_pos (s.attemptEnabled_iff.2 ⟨hp, hm, hc⟩)⟩
  · exact ⟨_, if_pos (s.seqCancelEnabled_iff.2 ⟨hp, hm, hc⟩)⟩
  · exact ⟨_, if_pos ((s.laneClaimEnabled_iff k).2 ⟨hp, hm, hl⟩)⟩
  · simp only [exec, execLaneAttempt, State.laneWork_eq_some.2 ⟨hp, hm, hl⟩]
    exact ⟨_, rfl⟩
  · exact ⟨_, if_pos (s.finishEnabled_iff.2 ⟨hp, hm, s.allLanesOff_iff.1 hoff⟩)⟩

/-- An engine step that has an effect was enabled. -/
theorem Effect.mem_enabledSteps {i : Instr} {s t : State} (h : Effect i s t) (hi : i.isEngineStep = true) :
    i ∈ enabledSteps s := by
  rw [Machine.mem_enabledSteps]
  cases h with
  | rejected _ _ _ _ host => rw [hi] at host; cases host
  | attemptWins _ _ searching seq live | attemptFails _ _ searching seq live =>
    exact ⟨searching, .inl ⟨seq, live, rfl⟩⟩
  | seqCancel _ searching seq cancelled => exact ⟨searching, .inr (.inl ⟨seq, cancelled, rfl⟩)⟩
  | laneLeaves k _ searching multi claims | laneClaims k _ searching multi claims =>
    exact ⟨searching, .inr (.inr ⟨multi, .inl ⟨k, claims, rfl⟩⟩)⟩
  | laneWins k _ base idx _ searching multi works | laneGoesOn k _ base idx _ searching multi works =>
    exact ⟨searching, .inr (.inr ⟨multi, .inr (.inl ⟨k, base, idx, works, rfl⟩)⟩)⟩
  | finishFound _ searching multi done | finishStopped _ searching multi done =>
    exact ⟨searching, .inr (.inr ⟨multi, .inr (.inr ⟨done, rfl⟩)⟩)⟩
  | _ => cases hi

/-- An engine step answers a next state or the refusal (log 5). -/
theorem exec_engine_next_or_refused {i : Instr} (h : i.isEngineStep = true) (s : State) :
    (∃ t, exec i s = .next t) ∨ exec i s = .refused .stepNotEnabled := by
  cases i with
  | attempt => simp only [exec, execAttempt]; split <;> simp
  | seqCancel => simp only [exec, execSeqCancel]; split <;> simp
  | laneClaim => simp only [exec, execLaneClaim]; split <;> simp
  | laneAttempt => simp only [exec, execLaneAttempt]; split <;> simp
  | finish => simp only [exec, execFinish]; split <;> simp
  | _ => cases h

theorem exists_engineTurn_eq_next (choice : Nat) (s : State) : ∃ t, engineTurn choice s = .next t := by
  by_cases h : enabledSteps s = []
  · exact ⟨s, engineTurn_of_enabledSteps_eq_nil h choice⟩
  · obtain ⟨i, hi, he⟩ := exists_engineTurn_eq_exec h choice
    rw [he]
    exact exists_exec_eq_next_of_enabled hi

/-- Whatever the outside world does next, the step has a next state. -/
theorem exists_step_eq_next (s : State) : ∃ t, step s = .next t := by
  match ha : s.agenda with
  | [] =>
    rw [step_of_silent ha]
    exact exists_engineTurn_eq_next _ _
  | .engine choice :: rest =>
    rw [step_of_engine ha]
    exact exists_engineTurn_eq_next _ _
  | .reset :: rest => exact ⟨_, step_of_reset ha⟩
  | .bus a :: rest =>
    match hd : decodeAccess a with
    | .ok i =>
      rw [step_of_bus ha hd]
      exact exists_exec_eq_next_of_host (encode_of_decodeAccess_eq_ok hd).2.1 _
    | .error _ => exact ⟨_, step_of_outside ha hd⟩

end Sys2Proof.Machine

namespace Sys2Proof.Proofs

open Sys2Proof.Machine

/-- Settles O6: the access is taken from the agenda, and its operation runs. -/
theorem stepRunsTheDecodedAccess : Obligations.StepRunsTheDecodedAccess :=
  fun _ _ _ _ => step_of_bus

/-- Settles O7: each enabled step has its number, and any number names an enabled step. -/
theorem anyEnabledStepMayBeNext : Obligations.AnyEnabledStepMayBeNext := by
  refine ⟨fun s rest i hi => ?_, fun s rest choice ha hne => ?_, fun s ha hne => ?_⟩
  · obtain ⟨choice, hchoice⟩ := exists_choice (s := { s with agenda := rest }) hi
    exact ⟨choice, (step_of_engine rfl).trans (engineTurn_of_chosen hchoice)⟩
  · rw [step_of_engine ha]
    exact exists_engineTurn_eq_exec (s := { s with agenda := rest }) hne choice
  · rw [step_of_silent ha]
    exact exists_engineTurn_eq_exec (s := { s with ticks := s.ticks + 1 }) hne _

/-- Settles O8: the reset input at the head of the agenda, and SRST. -/
theorem resetInputAndSoftReset : Obligations.ResetInputAndSoftReset :=
  fun _ => ⟨fun _ => step_of_reset, rfl⟩

/-- Settles O9: an access outside the window, and the engine turn with no enabled step. -/
theorem nothingToDoChangesNoRegister : Obligations.NothingToDoChangesNoRegister := by
  refine ⟨fun _ _ _ _ => step_of_outside, fun s rest choice ha hnil => ?_, fun s ha hnil => ?_⟩
  · rw [step_of_engine ha]
    exact engineTurn_of_enabledSteps_eq_nil (s := { s with agenda := rest }) hnil choice
  · rw [step_of_silent ha]
    exact engineTurn_of_enabledSteps_eq_nil (s := { s with ticks := s.ticks + 1 }) hnil _

/-- Settles O10: by the head of the agenda; the operations that a step takes up all have a next state. -/
theorem everyStepHasANextState : Obligations.EveryStepHasANextState :=
  exists_step_eq_next

/-- Settles O11: an engine step's effect needs its guard, and without a next state it is refused. -/
theorem engineStepsRunExactlyWhereEnabled : Obligations.EngineStepsRunExactlyWhereEnabled := by
  intro s i hi
  have hiff : (∃ t, exec i s = .next t) ↔ i ∈ enabledSteps s :=
    ⟨fun ⟨_, ht⟩ => (exec_effect ht).mem_enabledSteps hi, exists_exec_eq_next_of_enabled⟩
  exact ⟨hiff, fun hn => (exec_engine_next_or_refused hi s).resolve_left (mt hiff.1 hn)⟩

end Sys2Proof.Proofs
end

section
/-! Proofs about the invariants (10_state.md R58; 44_multi_worker.md R224, R226): the invariant phase by phase, and that every
effect keeps it. -/

namespace Sys2Proof.Machine

/-! ### What a store leaves alone -/

section
variable (s : State) (v : Word) (r : RegName)

@[simp] theorem writeReg_phase : (writeReg s v r).phase = s.phase := by cases r <;> rfl
@[simp] theorem writeReg_cancel : (writeReg s v r).cancel = s.cancel := by cases r <;> rfl
@[simp] theorem writeReg_winner : (writeReg s v r).winner = s.winner := by cases r <;> rfl
@[simp] theorem writeReg_foundCnt : (writeReg s v r).foundCnt = s.foundCnt := by cases r <;> rfl
@[simp] theorem writeReg_lanes : (writeReg s v r).lanes = s.lanes := by cases r <;> rfl
@[simp] theorem writeReg_nlanes : (writeReg s v r).nlanes = s.nlanes := by cases r <;> rfl

end

/-- A store outside the locked registers writes ERR, IRQ_STATUS or IRQ_ENABLE (10_state.md R56). -/
theorem writeReg_of_not_locked (s : State) (v : Word) {r : RegName} (h : r.access ≠ .rwl) :
    writeReg s v r =
      { s with
        err := (writeReg s v r).err
        irqStatus := (writeReg s v r).irqStatus
        irqEnable := (writeReg s v r).irqEnable } := by
  cases r with
  | version | prev | merkle | time | bits | nonce | limit | target | digest | progInterval | ctrl | range | nwork =>
    exact absurd rfl h
  | _ => rfl

/-! ### Lanes -/

theorem State.lane_congr {s t : State} (h : t.lanes = s.lanes) (i : Nat) : t.lane i = s.lane i := by
  rw [State.lane, State.lane, h]

theorem State.allLanesOff_congr {s t : State} (h : t.lanes = s.lanes) : t.allLanesOff = s.allLanesOff := by
  rw [State.allLanesOff, State.allLanesOff, h]

theorem State.allLanesOff_eq_false {s : State} {i : Nat} (h : s.lane i ≠ .off) : s.allLanesOff = false :=
  Bool.eq_false_iff.2 fun hoff => h (State.lane_of_allLanesOff hoff i)

/-! ### The invariant, phase by phase -/

section
variable {s : State} (hlen : s.lanes.length = s.nlanes.toNat) (hsome : 1 ≤ s.nlanes.toNat)
include hlen hsome

theorem State.inv_of_idle (hp : s.phase = .idle) (hoff : s.allLanesOff = true) (hc : s.cancel = false)
    (hw : s.winner = false) : s.Inv where
  lanesCount := hlen
  someLane := hsome
  restQuiet _ := ⟨hoff, hc⟩
  winnerBusy := by simp [hw]
  foundHasWinner := by simp [hp]
  seqLanesOff _ := hoff
  seqNoWinner _ _ := hw
  winnerCancels := by simp [hw]
  resultMeetsTarget := by simp [hw]
  rangePositive := by simp [hp]
  workInRange := by simp [State.lane_of_allLanesOff hoff]
  stillWorking := by simp [hp]

theorem State.inv_of_found (hp : s.phase = .found) (hoff : s.allLanesOff = true) (hc : s.cancel = false)
    (hw : s.winner = true) (hres : headerDigest s.header = s.digest ∧ s.digest ≤ s.target) : s.Inv where
  lanesCount := hlen
  someLane := hsome
  restQuiet _ := ⟨hoff, hc⟩
  winnerBusy := by simp [hp]
  foundHasWinner _ := hw
  seqLanesOff _ := hoff
  seqNoWinner := by simp [hp]
  winnerCancels := by simp [hp]
  resultMeetsTarget _ := hres
  rangePositive := by simp [hp]
  workInRange := by simp [State.lane_of_allLanesOff hoff]
  stillWorking := by simp [hp]

theorem State.inv_of_sequential (hp : s.phase = .searching) (hm : s.multi = false) (hoff : s.allLanesOff = true)
    (hw : s.winner = false) : s.Inv where
  lanesCount := hlen
  someLane := hsome
  restQuiet h := absurd hp h
  winnerBusy := by simp [hw]
  foundHasWinner := by simp [hp]
  seqLanesOff _ := hoff
  seqNoWinner _ _ := hw
  winnerCancels := by simp [hw]
  resultMeetsTarget := by simp [hw]
  rangePositive := by simp [hm]
  workInRange := by simp [State.lane_of_allLanesOff hoff]
  stillWorking := by simp [hm]

theorem State.inv_of_multi (hp : s.phase = .searching) (hm : s.multi = true) (hrange : s.range ≠ 0)
    (hpos : ∀ i base idx, s.lane i = .work base idx → idx < s.range.toNat)
    (hwon : s.winner = true → s.cancel = true ∧ headerDigest s.header = s.digest ∧ s.digest ≤ s.target)
    (hwork : s.cancel = false → s.allLanesOff = false) : s.Inv where
  lanesCount := hlen
  someLane := hsome
  restQuiet h := absurd hp h
  winnerBusy := by simp [hp]
  foundHasWinner := by simp [hp]
  seqLanesOff := by simp [hm]
  seqNoWinner := by simp [hm]
  winnerCancels _ h := (hwon h).1
  resultMeetsTarget h := (hwon h).2
  rangePositive _ _ := hrange
  workInRange := hpos
  stillWorking _ _ := hwork

end

namespace State.Inv
variable {s t : State} (hinv : s.Inv)
include hinv

theorem winner_of_idle (h : s.phase = .idle) : s.winner = false :=
  Bool.eq_false_iff.2 fun hw => hinv.winnerBusy hw h

/-- In Idle the registers of a header, target, mode or range are free. -/
theorem of_idle (h : s.phase = .idle) (hp : t.phase = s.phase) (hc : t.cancel = s.cancel) (hw : t.winner = s.winner)
    (hl : t.lanes = s.lanes) (hn : t.nlanes = s.nlanes) : t.Inv := by
  obtain ⟨hoff, hcancel⟩ := hinv.restQuiet (by simp [h])
  exact State.inv_of_idle (by rw [hl, hn, hinv.lanesCount]) (hn ▸ hinv.someLane) (hp.trans h)
    ((State.allLanesOff_congr hl).trans hoff) (hc.trans hcancel) (hw.trans (hinv.winner_of_idle h))

end State.Inv

/-! ### The reset state and START -/

theorem State.allLanesOff_resetTo (n : BitVec 8) : (State.resetTo n).allLanesOff = true :=
  (State.allLanesOff_iff _).2 fun _ => List.eq_of_mem_replicate

theorem State.inv_resetTo {n : BitVec 8} (h : 1 ≤ n.toNat) : (State.resetTo n).Inv :=
  State.inv_of_idle List.length_replicate h rfl (State.allLanesOff_resetTo n) rfl rfl

theorem State.inv_hardReset {s : State} (h : 1 ≤ s.nlanes.toNat) : s.hardReset.Inv :=
  { State.inv_resetTo h with }

theorem State.lane_startWorkers (s : State) (i : Nat) : s.startWorkers.lane i =
    if i < s.nlanes.toNat ∧ i < s.nwork.toNat then .claim else .off := by
  by_cases h : i < s.nlanes.toNat <;> simp [State.lane, startLanes, h]

/-- What an accepted multi mode START has checked (43_pow_search.md R187). -/
theorem State.multi_start_accepted {s : State} (h : s.startError = none) (hm : s.multi = true) :
    s.phase = .idle ∧ 0 < s.nwork.toNat ∧ s.nwork.toNat ≤ s.nlanes.toNat ∧ s.range ≠ 0 := by
  obtain ⟨hp, hb, -⟩ := State.startError_eq_none.1 h
  have hgood := mt s.badConfig_iff.2 (Bool.eq_false_iff.1 hb)
  simp only [hm, true_and, not_or, Nat.not_lt] at hgood
  obtain ⟨hnwork, hle, hrange⟩ := hgood
  exact ⟨hp, Nat.pos_of_ne_zero fun h0 => hnwork (BitVec.eq_of_toNat_eq h0), hle, hrange⟩

theorem State.inv_startWorkers {s : State} (hsome : 1 ≤ s.nlanes.toNat) (h : s.startError = none)
    (hm : s.multi = true) : s.startSearch.startWorkers.Inv := by
  obtain ⟨-, hnwork, -, hrange⟩ := State.multi_start_accepted h hm
  have lane := s.startSearch.lane_startWorkers
  refine State.inv_of_multi (by simp [startLanes]) hsome rfl hm hrange (fun i base idx hl => ?_) nofun fun _ => ?_
  · rw [lane] at hl
    split at hl <;> cases hl
  · have hfirst : s.startSearch.startWorkers.lane 0 = .claim := (lane 0).trans (if_pos ⟨hsome, hnwork⟩)
    exact State.allLanesOff_eq_false (i := 0) (by simp [hfirst])

/-! ### Lane steps -/

/-- The lanes after one of them, not Off before, has moved to `l`. -/
theorem State.lane_of_lanes_set {s t : State} {i : Nat} {l : LaneState} (h : t.lanes = s.lanes.set i l)
    (hi : s.lane i ≠ .off) (k : Nat) : t.lane k = if i = k then l else s.lane k := by
  rw [State.lane_congr (s := s.setLane i l) h, State.setLane_lane]
  simp only [State.lane_lt hi, and_true]

theorem State.nextPosition_ne_off (s : State) (base : U64) (idx : Nat) : s.nextPosition base idx ≠ .off := by
  unfold State.nextPosition
  split <;> simp

/-- A lane that goes on in its range goes one position on (44_multi_worker.md R220). -/
theorem State.nextPosition_eq_work {s : State} {base base' : U64} {idx idx' : Nat}
    (h : s.nextPosition base idx = .work base' idx') : base' = base ∧ idx' = idx + 1 ∧ idx + 1 ≠ s.range.toNat := by
  unfold State.nextPosition at h
  split at h
  next => cases h
  next hne =>
    cases h
    exact ⟨rfl, rfl, hne⟩

/-- A step of lane `i` to `l` in a running multi mode search keeps the invariant, if it keeps the position in its range,
leaves for Off only once CANCEL is set, and keeps or latches a winner whose digest meets the target. -/
theorem State.Inv.of_lane_step {s t : State} (hinv : s.Inv) {i : Nat} {l : LaneState} (hp : s.phase = .searching)
    (hm : s.multi = true) (hi : s.lane i ≠ .off) (hlanes : t.lanes = s.lanes.set i l) (hphase : t.phase = s.phase)
    (hmulti : t.multi = s.multi) (hnlanes : t.nlanes = s.nlanes) (hrange : t.range = s.range)
    (hpos : ∀ base idx, l = .work base idx → idx < s.range.toNat)
    (hwon : t.winner = true → t.cancel = true ∧ headerDigest t.header = t.digest ∧ t.digest ≤ t.target)
    (hwork : t.cancel = false → l ≠ .off) : t.Inv := by
  have lane := State.lane_of_lanes_set hlanes hi
  refine State.inv_of_multi (by rw [hlanes, List.length_set, hnlanes, hinv.lanesCount]) (hnlanes ▸ hinv.someLane)
    (hphase.trans hp) (hmulti.trans hm) (hrange ▸ hinv.rangePositive hp hm) (fun k base idx hk => ?_) hwon
    fun hc => State.allLanesOff_eq_false (i := i) ?_
  · rw [hrange]
    rw [lane] at hk
    split at hk
    next => exact hpos base idx hk
    next => exact hinv.workInRange k base idx hk
  · rw [lane, if_pos rfl]
    exact hwork hc

/-! ### Every step -/

/-- Every effect keeps the invariant. -/
theorem Effect.keeps_inv {i : Instr} {s t : State} (h : Effect i s t) (hinv : s.Inv) : t.Inv := by
  induction h with
  | rejected | readRejected | read | nop | compare | stopIgnored | ackIdle => exact { hinv with }
  | hash _ _ idle | decode _ idle | advance _ idle => exact hinv.of_idle idle rfl rfl rfl rfl rfl
  | srst => exact State.inv_hardReset hinv.someLane
  | command _ _ _ _ _ _ ih => exact ih hinv
  | store _ v s r _ _ _ unlocked =>
    by_cases hr : r.access = .rwl
    · exact hinv.of_idle (unlocked hr) (writeReg_phase ..) (writeReg_cancel ..) (writeReg_winner ..)
        (writeReg_lanes ..) (writeReg_nlanes ..)
    · rw [writeReg_of_not_locked s v hr]
      exact { hinv with }
  | startSeq s accepted seq =>
    exact State.inv_of_sequential hinv.lanesCount hinv.someLane rfl seq (hinv.seqLanesOff seq) rfl
  | startMulti s accepted multi => exact State.inv_startWorkers hinv.someLane accepted multi
  | stopSearching s searching =>
    exact
      { hinv with
        restQuiet := fun h => absurd searching h
        winnerCancels := fun _ _ => rfl
        stillWorking := nofun }
  | ackFound s found =>
    obtain ⟨hoff, hc⟩ := hinv.restQuiet (by simp [found])
    exact State.inv_of_idle hinv.lanesCount hinv.someLane rfl hoff hc rfl
  | attemptWins s d searching seq live is_digest meets =>
    exact State.inv_of_found hinv.lanesCount hinv.someLane rfl (hinv.seqLanesOff seq) live rfl ⟨is_digest.symm, meets⟩
  | attemptFails s d searching seq =>
    rw [State.attemptFails_eq]
    exact State.inv_of_sequential hinv.lanesCount hinv.someLane searching seq (hinv.seqLanesOff seq)
      (hinv.seqNoWinner searching seq)
  | seqCancel s searching seq =>
    exact State.inv_of_idle hinv.lanesCount hinv.someLane rfl (hinv.seqLanesOff seq) rfl (hinv.seqNoWinner searching seq)
  | laneLeaves i s searching multi claims cancelled =>
    exact hinv.of_lane_step searching multi (by simp [claims]) rfl rfl rfl rfl rfl nofun
      (fun hw => ⟨cancelled, hinv.resultMeetsTarget hw⟩) fun hc => absurd cancelled (Bool.eq_false_iff.1 hc)
  | laneClaims i s searching multi claims live =>
    have hpos : 0 < s.range.toNat :=
      Nat.pos_of_ne_zero fun h0 => hinv.rangePositive searching multi (BitVec.eq_of_toNat_eq h0)
    refine hinv.of_lane_step searching multi (by simp [claims]) rfl rfl rfl rfl rfl (fun base idx hl => ?_)
      (fun hw => ⟨hinv.winnerCancels searching hw, hinv.resultMeetsTarget hw⟩) nofun
    cases hl
    exact hpos
  | laneWins i s base idx d searching multi works is_digest meets =>
    exact hinv.of_lane_step searching multi (by simp [works]) rfl rfl rfl rfl rfl nofun
      (fun _ => ⟨rfl, is_digest.symm, meets⟩) nofun
  | laneGoesOn i s base idx d searching multi works =>
    have hidx := hinv.workInRange i base idx works
    rw [State.laneGoesOn_eq]
    refine hinv.of_lane_step (l := s.nextPosition base idx) searching multi (by simp [works]) rfl rfl rfl rfl rfl
      (fun base' idx' hl => ?_) (fun hw => ⟨hinv.winnerCancels searching hw, hinv.resultMeetsTarget hw⟩)
      fun _ => s.nextPosition_ne_off base idx
    obtain ⟨-, rfl, hne⟩ := State.nextPosition_eq_work hl
    omega
  | finishFound s searching multi done won =>
    exact State.inv_of_found hinv.lanesCount hinv.someLane rfl done rfl won (hinv.resultMeetsTarget won)
  | finishStopped s searching multi done lost =>
    exact State.inv_of_idle hinv.lanesCount hinv.someLane rfl done rfl lost

/-- The invariant does not speak of the agenda or the scheduler's counter. -/
theorem State.Inv.with_agenda_ticks {s : State} (hinv : s.Inv) (agenda : List Input) (ticks : Nat) :
    ({ s with agenda := agenda, ticks := ticks } : State).Inv :=
  { hinv with }

theorem step_keeps_inv {s t : State} (hinv : s.Inv) (h : step s = .next t) : t.Inv := by
  obtain ⟨agenda, ticks, ⟨i, hi⟩ | rfl | rfl⟩ := step_cases h
  · exact (exec_effect hi).keeps_inv (hinv.with_agenda_ticks agenda ticks)
  · exact State.inv_hardReset hinv.someLane
  · exact hinv.with_agenda_ticks agenda ticks

/-! ### The claim invariant -/

theorem State.claimInv_of_lanes_off {s : State} (hoff : s.allLanesOff = true)
    (hwon : s.multi = true → s.winner = true →
      ∃ k, k < s.claim.toNat ∧ (s.header.nonce, s.header.time) = cand s.baseNonce s.baseTime k) : s.ClaimInv where
  belowClaim := by simp [State.lane_of_allLanesOff hoff]
  disjoint := by simp [State.lane_of_allLanesOff hoff]
  winnerClaimed := hwon

/-- A step of lane `i` from `l₀` to `l`, with the claim counter unmoved, keeps the claim invariant if any range in its hand is
the one it had. -/
theorem State.ClaimInv.of_lane_step {s t : State} (hclaim : s.ClaimInv) {i : Nat} {l : LaneState}
    (hi : s.lane i ≠ .off) (hlanes : t.lanes = s.lanes.set i l) (hrange : t.range = s.range) (hc : t.claim = s.claim)
    (hkeeps : ∀ base idx, l = .work base idx → ∃ idx₀, s.lane i = .work base idx₀)
    (hwon : t.multi = true → t.winner = true →
      ∃ k, k < t.claim.toNat ∧ (t.header.nonce, t.header.time) = cand t.baseNonce t.baseTime k) : t.ClaimInv := by
  have before : ∀ k base idx, t.lane k = .work base idx → ∃ idx₀, s.lane k = .work base idx₀ := by
    intro k base idx hk
    rw [State.lane_of_lanes_set hlanes hi] at hk
    split at hk
    next hik => exact hik ▸ hkeeps base idx hk
    next => exact ⟨idx, hk⟩
  refine ⟨fun k base idx hk => ?_, fun j k base idx base' idx' hjk hj hk => ?_, hwon⟩
  · obtain ⟨idx₀, hk₀⟩ := before k base idx hk
    rw [hrange, hc]
    exact hclaim.belowClaim k base idx₀ hk₀
  · obtain ⟨idx₀, hj₀⟩ := before j base idx hj
    obtain ⟨idx₁, hk₁⟩ := before k base' idx' hk
    rw [hrange]
    exact hclaim.disjoint j k base idx₀ base' idx₁ hjk hj₀ hk₁

/-- In Idle no lane holds a range and no winner is latched. -/
theorem State.Inv.claimInv_of_idle {s t : State} (hinv : s.Inv) (h : s.phase = .idle) (hw : t.winner = s.winner)
    (hl : t.lanes = s.lanes) : t.ClaimInv :=
  State.claimInv_of_lanes_off ((State.allLanesOff_congr hl).trans (hinv.restQuiet (by simp [h])).1)
    (by simp [hw, hinv.winner_of_idle h])

theorem State.claimInv_resetTo (n : BitVec 8) : (State.resetTo n).ClaimInv :=
  State.claimInv_of_lanes_off (State.allLanesOff_resetTo n) nofun

theorem State.claimInv_startWorkers (s : State) : s.startSearch.startWorkers.ClaimInv := by
  have idle : ∀ i base idx, s.startSearch.startWorkers.lane i ≠ .work base idx := by
    intro i base idx
    rw [State.lane_startWorkers]
    split <;> simp
  exact ⟨fun i base idx h => absurd h (idle i base idx), fun i _ base idx _ _ _ h => absurd h (idle i base idx), nofun⟩

/-- A claimed range lies above all the ranges claimed before it, as long as CLAIM does not wrap. -/
theorem State.ClaimInv.of_claim {s : State} (hclaim : s.ClaimInv) (hfits : s.claim.toNat + s.range.toNat < 2 ^ 64)
    {i : Nat} (hi : s.lane i = .claim) :
    ({ s.setLane i (.work s.claim 0) with claim := s.claim + s.range.setWidth 64 } : State).ClaimInv := by
  have lane := State.lane_of_lanes_set (i := i) (l := .work s.claim 0)
    (t := { s.setLane i (.work s.claim 0) with claim := s.claim + s.range.setWidth 64 }) rfl (by simp [hi])
  have hsum : (s.claim + s.range.setWidth 64).toNat = s.claim.toNat + s.range.toNat := by
    rw [toNat_add_setWidth, Nat.mod_eq_of_lt hfits]
  refine ⟨fun k base idx hk => ?_, fun j k base idx base' idx' hjk hj hk => ?_, fun hm hw => ?_⟩
  · rw [lane] at hk
    show base.toNat + s.range.toNat ≤ (s.claim + s.range.setWidth 64).toNat
    split at hk
    next => cases hk; omega
    next =>
      have hbelow := hclaim.belowClaim k base idx hk
      omega
  · rw [lane] at hj hk
    show base.toNat + s.range.toNat ≤ base'.toNat ∨ base'.toNat + s.range.toNat ≤ base.toNat
    split at hj <;> split at hk
    next hij hik => exact absurd (hij.symm.trans hik) hjk
    next => cases hj; exact .inr (hclaim.belowClaim k base' idx' hk)
    next => cases hk; exact .inl (hclaim.belowClaim j base idx hj)
    next => exact hclaim.disjoint j k base idx base' idx' hjk hj hk
  · obtain ⟨k, hk, hcand⟩ := hclaim.winnerClaimed hm hw
    exact ⟨k, by show k < (s.claim + s.range.setWidth 64).toNat; omega, hcand⟩

/-- The candidate of a lane's position in its range is claimed, as long as CLAIM has not wrapped (44_multi_worker.md R226). -/
theorem State.ClaimInv.laneCand_claimed {s : State} (hclaim : s.ClaimInv) (hinv : s.Inv) {i : Nat} {base : U64} {idx : Nat}
    (works : s.lane i = .work base idx) :
    ∃ k, k < s.claim.toNat ∧ s.laneCand base idx = cand s.baseNonce s.baseTime k := by
  have hpos := hinv.workInRange i base idx works
  have hbelow := hclaim.belowClaim i base idx works
  have hbound := s.claim.isLt
  exact ⟨_, by rw [Nat.mod_eq_of_lt (by omega)]; omega, rfl⟩

/-- Every effect keeps the claim invariant, as long as CLAIM does not wrap. -/
theorem Effect.keeps_claimInv {i : Instr} {s t : State} (h : Effect i s t) (hinv : s.Inv) (hclaim : s.ClaimInv)
    (hfits : s.claim.toNat + s.range.toNat < 2 ^ 64) : t.ClaimInv := by
  induction h with
  | rejected | readRejected | read | nop | compare | stopIgnored | ackIdle | stopSearching | seqCancel | finishFound
  | finishStopped => exact { hclaim with }
  | hash _ _ idle | decode _ idle | advance _ idle => exact hinv.claimInv_of_idle idle rfl rfl
  | srst s => exact { State.claimInv_resetTo s.nlanes with }
  | command _ _ _ _ _ _ ih => exact ih hinv hclaim hfits
  | store _ v s r _ _ _ unlocked =>
    by_cases hr : r.access = .rwl
    · exact hinv.claimInv_of_idle (unlocked hr) (writeReg_winner ..) (writeReg_lanes ..)
    · rw [writeReg_of_not_locked s v hr]
      exact { hclaim with }
  | startSeq s accepted seq => exact State.claimInv_of_lanes_off (hinv.seqLanesOff seq) nofun
  | startMulti s => exact s.claimInv_startWorkers
  | ackFound => exact { hclaim with winnerClaimed := nofun }
  | attemptWins s d _ seq => exact State.claimInv_of_lanes_off (hinv.seqLanesOff seq) (by simp [seq])
  | attemptFails s d _ seq =>
    exact State.claimInv_of_lanes_off ((State.allLanesOff_congr (s.attemptFails_lanes d)).trans (hinv.seqLanesOff seq))
      (by simp [seq])
  | laneLeaves i s _ _ claims =>
    exact hclaim.of_lane_step (by simp [claims]) rfl rfl rfl nofun hclaim.winnerClaimed
  | laneClaims i s _ _ claims => exact hclaim.of_claim hfits claims
  | laneWins i s base idx d _ _ works =>
    exact hclaim.of_lane_step (by simp [works]) rfl rfl rfl nofun fun _ _ => hclaim.laneCand_claimed hinv works
  | laneGoesOn i s base idx d _ _ works =>
    rw [State.laneGoesOn_eq]
    refine hclaim.of_lane_step (l := s.nextPosition base idx) (by simp [works]) rfl rfl rfl (fun base' idx' hl => ?_)
      hclaim.winnerClaimed
    obtain ⟨rfl, -, -⟩ := State.nextPosition_eq_work hl
    exact ⟨idx, works⟩

/-- The claim invariant does not speak of the agenda or the scheduler's counter. -/
theorem State.ClaimInv.with_agenda_ticks {s : State} (hclaim : s.ClaimInv) (agenda : List Input) (ticks : Nat) :
    ({ s with agenda := agenda, ticks := ticks } : State).ClaimInv :=
  { hclaim with }

theorem step_keeps_claimInv {s t : State} (hinv : s.Inv) (hclaim : s.ClaimInv)
    (hfits : s.claim.toNat + s.range.toNat < 2 ^ 64) (h : step s = .next t) : t.ClaimInv := by
  obtain ⟨agenda, ticks, ⟨i, hi⟩ | rfl | rfl⟩ := step_cases h
  · exact (exec_effect hi).keeps_claimInv (hinv.with_agenda_ticks agenda ticks) (hclaim.with_agenda_ticks agenda ticks)
      hfits
  · exact { State.claimInv_resetTo s.nlanes with }
  · exact hclaim.with_agenda_ticks agenda ticks

/-- NLANES is not 0 (00_scope.md R6). -/
theorem one_le_nlanes : 1 ≤ Config.nlanes.toNat := by
  have hlt := Config.lanesLessOne.isLt
  rw [Config.nlanes, BitVec.toNat_ofNat]
  omega

end Sys2Proof.Machine

namespace Sys2Proof.Proofs

open Sys2Proof.Machine

/-- Settles O14: every effect of an operation keeps the invariant, and so do the reset input and a step with nothing to do. -/
theorem everyStepKeepsTheInvariant : Obligations.EveryStepKeepsTheInvariant :=
  fun _ _ => step_keeps_inv

/-- Settles O17: the same for the claim invariant, where a claimed range is new above CLAIM. -/
theorem claimedRangesStayDisjoint : Obligations.ClaimedRangesStayDisjoint :=
  fun _ _ => step_keeps_claimInv

/-- Settles O13: after reset the block is in Idle, with every lane Off and no winner. -/
theorem resetMeetsTheInvariant : Obligations.ResetMeetsTheInvariant := by
  refine ⟨fun n hn => ⟨State.inv_resetTo ?_, State.claimInv_resetTo n⟩, State.inv_resetTo one_le_nlanes⟩
  exact Nat.pos_of_ne_zero fun h0 => hn (BitVec.eq_of_toNat_eq h0)

end Sys2Proof.Proofs
end

section
/-! Proofs about what operations leave alone (10_state.md R32, R58; 44_multi_worker.md R219, R225; 60_exceptions.md R263): the
control state, the locked registers, the winner, the other lanes, and everything when an error is raised. -/

namespace Sys2Proof.Machine

/-! ### Well-formed operations -/

/-- Only offset 0x0C4 names CMD, so a write there that runs a command is not the command's well-formed form (log 12). -/
theorem wr_cmd_not_wf {offset : Offset} (h : regAt offset.toNat = some .cmd) (w : Word) :
    (Instr.wr offset 4 w).wf = false := by
  have honly : ∀ row ∈ registerTable, row.2 = .cmd → row.1 = cmdOffset := by decide
  obtain ⟨row, hrow, hcmd⟩ := Option.map_eq_some_iff.1 h
  have ho : row.1 = offset.toNat := by simpa using List.find?_some hrow
  simp [Instr.wf, (isCommandWrite_iff offset 4).2 ⟨ho ▸ honly row (List.mem_of_find?_eq_some hrow) hcmd, rfl⟩]

/-! ### What a host operation can do while the block is not in Idle -/

/-- The effects of the host's operations outside Idle. Only ACK and SRST leave the state they find; a write to CMD is the
command, in a form that is not well formed (log 12). -/
inductive BusyHostEffect (i : Instr) (s : State) : State → Prop where
  | observes (err : Option ErrRecord) (irqStatus irqEnable : BitVec 4) (rdata : Word) :
      BusyHostEffect i s { s with err := err, irqStatus := irqStatus, irqEnable := irqEnable, rdata := rdata }
  | stops (searching : s.phase = .searching) : BusyHostEffect i s { s with cancel := true }
  | acks (found : s.phase = .found) (is_ack : i.wf = true → i = .ack) :
      BusyHostEffect i s { s with phase := .idle, winner := false }
  | resets (is_srst : i.wf = true → i = .srst) : BusyHostEffect i s s.hardReset

theorem Effect.busy_host {i : Instr} {s t : State} (h : Effect i s t) (host : i.isEngineStep = false)
    (busy : s.phase ≠ .idle) : BusyHostEffect i s t := by
  induction h with
  | rejected _ s | readRejected _ _ s | read _ s | nop s | stopIgnored s | ackIdle s =>
    exact .observes ..
  | hash _ _ idle | decode _ idle | compare _ idle | advance _ idle => exact absurd idle busy
  | startSeq s accepted | startMulti s accepted => exact absurd (State.startError_eq_none.1 accepted).1 busy
  | stopSearching s searching => exact .stops searching
  | ackFound s found => exact .acks found fun _ => rfl
  | srst s => exact .resets fun _ => rfl
  | store _ v s r _ _ _ unlocked =>
    rw [writeReg_of_not_locked s v fun hr => busy (unlocked hr)]
    exact .observes ..
  | command _ w _ _ at_cmd _ ih =>
    have not_wf := Bool.eq_false_iff.1 (wr_cmd_not_wf at_cmd w)
    cases ih (decodeCommand_wf w).2 busy with
    | observes => exact .observes ..
    | stops searching => exact .stops searching
    | acks found => exact .acks found (absurd · not_wf)
    | resets => exact .resets (absurd · not_wf)
  | attemptWins | attemptFails | seqCancel | laneLeaves | laneClaims | laneWins | laneGoesOn | finishFound
  | finishStopped => cases host

/-! ### What the engine leaves alone -/

/-- No engine step writes a locked register but NONCE, TIME and DIGEST (10_state.md R58 (e)). -/
theorem Effect.engine_keeps_locked {i : Instr} {s t : State} (h : Effect i s t) (hi : i.isEngineStep = true) :
    t.header.version = s.header.version ∧ t.header.prev = s.header.prev ∧ t.header.merkle = s.header.merkle ∧
      t.header.bits = s.header.bits ∧ t.limit = s.limit ∧ t.target = s.target ∧ t.progInterval = s.progInterval ∧
      t.clamp = s.clamp ∧ t.multi = s.multi ∧ t.range = s.range ∧ t.nwork = s.nwork := by
  cases h with
  | rejected _ _ _ _ host => rw [hi] at host; cases host
  | attemptFails _ d => simp [Header.advanced_eq]
  | laneGoesOn => simp
  | attemptWins | seqCancel | laneLeaves | laneClaims | laneWins | finishFound | finishStopped =>
    exact ⟨rfl, rfl, rfl, rfl, rfl, rfl, rfl, rfl, rfl, rfl, rfl⟩
  | _ => cases hi

/-! ### Event bits -/

/-- A store sets no event bit. -/
theorem getLsbD_writeReg_irqStatus {s : State} {v : Word} {r : RegName} {k : Nat}
    (h : (writeReg s v r).irqStatus.getLsbD k = true) : s.irqStatus.getLsbD k = true := by
  cases r with
  | irqStatus =>
    simp only [writeReg, State.clearEvents_irqStatus, BitVec.getLsbD_and, Bool.and_eq_true] at h
    exact h.1
  | _ => exact h

/-! ### The winner -/

/-- Nothing counts, reports or latches a winner. -/
def NoNewWinner (s t : State) : Prop :=
  t.foundCnt = s.foundCnt ∧ (t.winner = true → s.winner = true) ∧
    (t.irqStatus.getLsbD 0 = true → s.irqStatus.getLsbD 0 = true)

theorem NoNewWinner.of_event {s t : State} {ev : BitVec 4} (hev : ev.getLsbD 0 = false) (hc : t.foundCnt = s.foundCnt)
    (hw : t.winner = true → s.winner = true) (hirq : t.irqStatus = s.irqStatus ||| ev) : NoNewWinner s t :=
  ⟨hc, hw, fun h => by rwa [hirq, BitVec.getLsbD_or, hev, Bool.or_false] at h⟩

/-- The event bit of a progress event, where it is due. -/
theorem irqStatus_attempt_missed (s : State) : ∃ ev : BitVec 4, ev.getLsbD 0 = false ∧ ev.getLsbD 2 = false ∧
    (if progressDue s.progInterval s.nextCount then s.irqStatus ||| evProgress else s.irqStatus) = s.irqStatus ||| ev := by
  split
  · exact ⟨evProgress, rfl, rfl, rfl⟩
  · exact ⟨0, rfl, rfl, by simp⟩

/-- The one winner of a running search (44_multi_worker.md R225). -/
def FirstWinner (s t : State) : Prop :=
  s.phase = .searching ∧ s.winner = false ∧ t.winner = true ∧ t.foundCnt = s.foundCnt + 1 ∧
    t.irqStatus.getLsbD 0 = true

theorem Effect.noNewWinner_or_firstWinner {i : Instr} {s t : State} (h : Effect i s t) (hinv : s.Inv)
    (hwf : i.wf = true) (hreset : i ≠ .srst) : NoNewWinner s t ∨ FirstWinner s t := by
  have found (e : BitVec 4) : (e ||| evFound).getLsbD 0 = true := by simp [evFound]
  cases h with
  | srst => exact absurd rfl hreset
  | command _ w _ _ at_cmd => exact absurd hwf (Bool.eq_false_iff.1 (wr_cmd_not_wf at_cmd w))
  | rejected | readRejected => exact .inl (.of_event (ev := evError) rfl rfl id rfl)
  | store => exact .inl ⟨writeReg_foundCnt .., by simp, getLsbD_writeReg_irqStatus⟩
  | startSeq | startMulti | ackFound => exact .inl ⟨rfl, nofun, id⟩
  | attemptWins _ d searching seq => exact .inr ⟨searching, hinv.seqNoWinner searching seq, rfl, rfl, found _⟩
  | laneWins _ _ _ _ _ searching _ _ _ _ first => exact .inr ⟨searching, first, rfl, rfl, found _⟩
  | attemptFails _ d =>
    obtain ⟨ev, hev, -, heq⟩ := irqStatus_attempt_missed s
    exact .inl (.of_event hev (by simp) (by simp) ((s.attemptFails_irqStatus d).trans heq))
  | laneGoesOn k _ base idx d =>
    obtain ⟨ev, hev, -, heq⟩ := irqStatus_attempt_missed s
    exact .inl (.of_event hev (by simp) (by simp) ((s.laneGoesOn_irqStatus k base idx d).trans heq))
  | seqCancel | finishStopped => exact .inl (.of_event (ev := evStopped) rfl rfl id rfl)
  | read | nop | hash | decode | compare | advance | stopSearching | stopIgnored | ackIdle | laneLeaves | laneClaims
  | finishFound => exact .inl ⟨rfl, id, id⟩

theorem Effect.keeps_winner {i : Instr} {s t : State} (h : Effect i s t) (hwf : i.wf = true) (hreset : i ≠ .srst)
    (hs : s.phase = .searching) (hw : s.winner = true) : t.winner = true := by
  cases h with
  | srst => exact absurd rfl hreset
  | command _ w _ _ at_cmd => exact absurd hwf (Bool.eq_false_iff.1 (wr_cmd_not_wf at_cmd w))
  | startSeq _ accepted | startMulti _ accepted => simp [(State.startError_eq_none.1 accepted).1] at hs
  | ackFound _ found => simp [found] at hs
  | store => exact (writeReg_winner ..).trans hw
  | attemptWins | laneWins => rfl
  | attemptFails _ d => exact (s.attemptFails_winner d).trans hw
  | laneGoesOn k _ base idx d => exact (s.laneGoesOn_winner k base idx d).trans hw
  | _ => exact hw

/-! ### The lanes' steps -/

/-- A lane's engine step is enabled where the lane is at it, in a running multi mode search (44_multi_worker.md R219). -/
theorem mem_enabledSteps_of_lane {s : State} {i : Instr} {k : Nat} (h : i = .laneClaim k ∨ i = .laneAttempt k) :
    i ∈ enabledSteps s ↔ s.phase = .searching ∧ s.multi = true ∧ laneStep s k = some i := by
  rw [laneStep_eq_some]
  rcases h with rfl | rfl
  · simp [laneClaim_mem_enabledSteps]
  · simp [laneAttempt_mem_enabledSteps]

theorem laneStep_congr {s t : State} {k : Nat} (h : t.lane k = s.lane k) : laneStep t k = laneStep s k := by
  rw [laneStep, laneStep, h]

/-- An engine step of a multi mode search, with some lane not Off, moves the one lane whose step it is. -/
theorem Effect.moves_one_lane {i : Instr} {s t : State} (h : Effect i s t) (hi : i.isEngineStep = true)
    (hm : s.multi = true) (hon : s.allLanesOff = false) :
    t.phase = .searching ∧ t.multi = true ∧
      ∃ k l, laneStep s k = some i ∧ s.lane k ≠ .off ∧ t.lanes = s.lanes.set k l := by
  cases h with
  | rejected _ _ _ _ host => rw [hi] at host; cases host
  | attemptWins _ _ _ seq | attemptFails _ _ _ seq | seqCancel _ _ seq => rw [hm] at seq; cases seq
  | finishFound _ _ _ done | finishStopped _ _ _ done => rw [hon] at done; cases done
  | laneLeaves k _ searching multi claims | laneClaims k _ searching multi claims =>
    exact ⟨searching, multi, k, _, (laneStep_eq_some ..).2 (.inl ⟨claims, rfl⟩), by simp [claims], rfl⟩
  | laneWins k _ base idx _ searching multi works =>
    exact ⟨searching, multi, k, _, (laneStep_eq_some ..).2 (.inr ⟨base, idx, works, rfl⟩), by simp [works], rfl⟩
  | laneGoesOn k _ base idx _ searching multi works =>
    exact ⟨by simpa, by simpa, k, _, (laneStep_eq_some ..).2 (.inr ⟨base, idx, works, rfl⟩), by simp [works],
      s.laneGoesOn_lanes ..⟩
  | _ => cases hi

/-- What keeps a lane's step enabled: the host does not touch the lanes of a running search, and an engine step moves its
own lane only. -/
theorem Effect.keeps_laneStep {i j : Instr} {s t : State} {k : Nat} (h : Effect j s t) (hwf : j.wf = true)
    (hreset : j ≠ .srst) (hji : j ≠ i) (hs : s.phase = .searching) (hm : s.multi = true)
    (hk : laneStep s k = some i) : t.phase = .searching ∧ t.multi = true ∧ laneStep t k = some i := by
  cases hj : j.isEngineStep with
  | false =>
    cases h.busy_host hj (by simp [hs]) with
    | observes | stops => exact ⟨hs, hm, hk⟩
    | acks found => simp [found] at hs
    | resets is_srst => exact absurd (is_srst hwf) hreset
  | true =>
    have hon : s.lane k ≠ .off := fun hoff => by simp [laneStep, hoff] at hk
    obtain ⟨hp, hmulti, k', l, hk', hon', hlanes⟩ := h.moves_one_lane hj hm (State.allLanesOff_eq_false hon)
    have hne : k' ≠ k := fun heq => hji (Option.some.inj (by rw [← hk', heq, hk]))
    refine ⟨hp, hmulti, (laneStep_congr ?_).trans hk⟩
    rw [State.lane_of_lanes_set hlanes hon', if_neg hne]

/-! ### Errors -/

/-- A command is written, not read. -/
theorem decodeCommand_ne_rd (w : Word) (o : Offset) (n : Nat) : decodeCommand w ≠ .rd o n := by
  intro h
  have haccess := encode_decodeCommand w
  rw [h] at haccess
  cases haccess

/-- Only the error entry newly sets the ERROR event, and it is all that its operation does (60_exceptions.md R263). -/
theorem Effect.precise_error {i : Instr} {s t : State} (h : Effect i s t) (hs : s.irqStatus.getLsbD 2 = false)
    (ht : t.irqStatus.getLsbD 2 = true) : i.isEngineStep = false ∧ ∃ code info, t = s.raise code info ∨
      ((∃ offset size, i = .rd offset size) ∧ t = { s.raise code info with rdata := 0 }) := by
  have clear {e ev : BitVec 4} (he : e.getLsbD 2 = false) (hev : ev.getLsbD 2 = false) :
      (e ||| ev).getLsbD 2 ≠ true := by rw [BitVec.getLsbD_or, he, hev]; decide
  induction h with
  | rejected i s code info host => exact ⟨host, code, info, .inl rfl⟩
  | readRejected offset size s code info => exact ⟨rfl, code, info, .inr ⟨⟨offset, size, rfl⟩, rfl⟩⟩
  | command offset w s t _ _ ih =>
    obtain ⟨-, code, info, heq | ⟨⟨o, n, hrd⟩, -⟩⟩ := ih hs ht
    · exact ⟨rfl, code, info, .inl heq⟩
    · exact absurd hrd (decodeCommand_ne_rd w o n)
  | store => exact absurd (getLsbD_writeReg_irqStatus ht) (Bool.eq_false_iff.1 hs)
  | attemptWins | laneWins => exact absurd ht (clear (ev := evFound) hs rfl)
  | seqCancel | finishStopped => exact absurd ht (clear (ev := evStopped) hs rfl)
  | attemptFails s d =>
    obtain ⟨ev, -, hev, heq⟩ := irqStatus_attempt_missed s
    rw [State.attemptFails_irqStatus, heq] at ht
    exact absurd ht (clear hs hev)
  | laneGoesOn k s base idx d =>
    obtain ⟨ev, -, hev, heq⟩ := irqStatus_attempt_missed s
    rw [State.laneGoesOn_irqStatus, heq] at ht
    exact absurd ht (clear hs hev)
  | srst => exact absurd ht (show ¬(0 : BitVec 4).getLsbD 2 = true by decide)
  | _ => exact absurd ht (Bool.eq_false_iff.1 hs)

end Sys2Proof.Machine

namespace Sys2Proof.Proofs

open Sys2Proof.Machine

/-- Settles O15: the effects that write STATE, each with its guard. -/
theorem stateChangesOnlyAsListed : Obligations.StateChangesOnlyAsListed := by
  intro i s t hwf hexec
  cases exec_effect hexec with
  | command _ w _ _ at_cmd => exact absurd hwf (Bool.eq_false_iff.1 (wr_cmd_not_wf at_cmd w))
  | startSeq _ accepted | startMulti _ accepted =>
    exact .inr (.inl ⟨rfl, (State.startError_eq_none.1 accepted).1, rfl⟩)
  | attemptWins _ _ searching => exact .inr (.inr (.inl ⟨rfl, searching, rfl⟩))
  | finishFound _ searching _ _ won => exact .inr (.inr (.inr (.inl ⟨rfl, searching, won, rfl⟩)))
  | seqCancel _ searching => exact .inr (.inr (.inr (.inr (.inl ⟨rfl, searching, rfl⟩))))
  | finishStopped _ searching _ _ lost => exact .inr (.inr (.inr (.inr (.inr (.inl ⟨rfl, searching, lost, rfl⟩)))))
  | ackFound _ found => exact .inr (.inr (.inr (.inr (.inr (.inr (.inl ⟨rfl, found, rfl⟩))))))
  | srst => exact .inr (.inr (.inr (.inr (.inr (.inr (.inr ⟨rfl, rfl⟩))))))
  | store => exact .inl (writeReg_phase ..)
  | attemptFails _ d => exact .inl (s.attemptFails_phase d)
  | laneGoesOn k _ base idx d => exact .inl (s.laneGoesOn_phase k base idx d)
  | _ => exact .inl rfl

/-- Settles O16: outside Idle the host's operations store to unlocked registers only; the engine's write DIGEST and, of the
header, NONCE and TIME. -/
theorem lockedRegistersHoldWhileBusy : Obligations.LockedRegistersHoldWhileBusy := by
  intro i s t hwf hreset hbusy hexec
  have heff := exec_effect hexec
  cases hi : i.isEngineStep with
  | true => exact ⟨heff.engine_keeps_locked hi, nofun⟩
  | false =>
    cases heff.busy_host hi hbusy with
    | observes | stops | acks => simp
    | resets is_srst => exact absurd (is_srst hwf) hreset

/-- Settles O18: by the effects, the invariant saying that a sequential search that runs has no winner. -/
theorem oneWinnerPerSearch : Obligations.OneWinnerPerSearch :=
  fun _ _ _ hinv hwf hreset hexec =>
    have heff := exec_effect hexec
    ⟨heff.noNewWinner_or_firstWinner hinv hwf hreset, heff.keeps_winner hwf hreset⟩

/-- Settles O19: the lane keeps its place, and the search goes on. -/
theorem enabledLaneStepStaysEnabled : Obligations.EnabledLaneStepStaysEnabled := by
  intro i j s t k hi hmem hwf hreset hji hexec
  obtain ⟨hs, hm, hk⟩ := (mem_enabledSteps_of_lane hi).1 hmem
  exact (mem_enabledSteps_of_lane hi).2 ((exec_effect hexec).keeps_laneStep hwf hreset hji hs hm hk)

/-- Settles O30: by induction over the effects, a command's write having the command's effect. -/
theorem errorsArePrecise : Obligations.ErrorsArePrecise :=
  fun _ _ _ hexec => (exec_effect hexec).precise_error

end Sys2Proof.Proofs
end

section
/-! Proofs about runs (00_scope.md R11) with a silent host: the engine steps do not see the observation registers
(43_pow_search.md R192), and a sequential search tries its candidates in order (R190). -/

namespace Sys2Proof.Machine

/-! ### Runs -/

theorem run_succ {s t : State} (h : step s = .next t) (n : Nat) :
    Host.Core.run core (n + 1) s = Host.Core.run core n t := by
  have hcore : core.step s = .next t := h
  simp only [Host.Core.run, hcore]

theorem run_succ_of_run {n : Nat} {s t u : State} (h : Host.Core.run core n s = .next t) (hstep : step t = .next u) :
    Host.Core.run core (n + 1) s = .next u := by
  induction n generalizing s with
  | zero =>
    obtain rfl := next_inj h
    exact run_succ hstep 0
  | succ n ih =>
    obtain ⟨s', hs'⟩ := exists_step_eq_next s
    rw [run_succ hs'] at h ⊢
    exact ih h

/-! ### Engine steps and what they do not see -/

/-- An engine step leaves what the outside world does next (log 1). -/
theorem Effect.engine_agenda {i : Instr} {s t : State} (h : Effect i s t) (hi : i.isEngineStep = true) :
    t.agenda = s.agenda := by
  cases h with
  | rejected _ _ _ _ host => rw [hi] at host; cases host
  | attemptFails _ d => exact s.attemptFails_agenda d
  | laneGoesOn k _ base idx d => exact s.laneGoesOn_agenda k base idx d
  | attemptWins | seqCancel | laneLeaves | laneClaims | laneWins | finishFound | finishStopped => rfl
  | _ => cases hi

/-- `s` with the observation registers of `o` (43_pow_search.md R192). -/
def State.observedAs (s o : State) : State :=
  { s with
    progInterval := o.progInterval, progCnt := o.progCnt, progDigest := o.progDigest
    irqStatus := o.irqStatus, irqEnable := o.irqEnable, err := o.err }

theorem sameSearch_iff (s t : State) : SameSearch s t ↔ t = s.observedAs t := Iff.rfl

theorem chosenStep_observedAs (s o : State) (choice : Nat) : chosenStep (s.observedAs o) choice = chosenStep s choice :=
  rfl

/-- An engine step that has an effect in `s` has the same effect on the search with other observation registers. -/
theorem Effect.engine_observedAs {i : Instr} {s s' : State} (h : Effect i s s') (hi : i.isEngineStep = true)
    (o : State) : ∃ t', exec i (s.observedAs o) = .next t' ∧ SameSearch s' t' := by
  cases h with
  | rejected _ _ _ _ host => rw [hi] at host; cases host
  | attemptWins _ d searching seq live is_digest meets =>
    subst is_digest
    exact ⟨_, exec_attempt_of_le (s := s.observedAs o) ((State.attemptEnabled_iff _).2 ⟨searching, seq, live⟩) meets, rfl⟩
  | attemptFails _ d searching seq live is_digest misses =>
    subst is_digest
    refine ⟨_, exec_attempt_of_lt (s := s.observedAs o) ((State.attemptEnabled_iff _).2 ⟨searching, seq, live⟩)
      (BitVec.not_le.1 misses), ?_⟩
    rw [State.attemptFails_eq, State.attemptFails_eq]
    rfl
  | seqCancel _ searching seq cancelled =>
    exact ⟨_, exec_seqCancel_of_enabled (s := s.observedAs o)
      ((State.seqCancelEnabled_iff _).2 ⟨searching, seq, cancelled⟩), rfl⟩
  | laneLeaves k _ searching multi claims cancelled =>
    exact ⟨_, exec_laneClaim_of_cancelled (s := s.observedAs o)
      ((State.laneClaimEnabled_iff _ k).2 ⟨searching, multi, claims⟩) cancelled, rfl⟩
  | laneClaims k _ searching multi claims live =>
    exact ⟨_, exec_laneClaim_of_live (s := s.observedAs o)
      ((State.laneClaimEnabled_iff _ k).2 ⟨searching, multi, claims⟩) live, rfl⟩
  | laneWins k _ base idx d searching multi works is_digest meets first =>
    subst is_digest
    exact ⟨_, exec_laneAttempt_of_win (s := s.observedAs o) (State.laneWork_eq_some.2 ⟨searching, multi, works⟩) meets
      first, rfl⟩
  | laneGoesOn k _ base idx d searching multi works is_digest no_win =>
    subst is_digest
    have hn : s.target < headerDigest (s.laneHeader base idx) ∨ s.winner = true :=
      (not_and_or.1 no_win).imp BitVec.not_le.1 (by simp)
    refine ⟨_, exec_laneAttempt_of_no_win (s := s.observedAs o) (State.laneWork_eq_some.2 ⟨searching, multi, works⟩) hn,
      ?_⟩
    rw [State.laneGoesOn_eq, State.laneGoesOn_eq]
    rfl
  | finishFound _ searching multi done won =>
    exact ⟨_, exec_finish_of_winner (s := s.observedAs o)
      ((State.finishEnabled_iff _).2 ⟨searching, multi, s.allLanesOff_iff.1 done⟩) won, rfl⟩
  | finishStopped _ searching multi done lost =>
    exact ⟨_, exec_finish_of_no_winner (s := s.observedAs o)
      ((State.finishEnabled_iff _).2 ⟨searching, multi, s.allLanesOff_iff.1 done⟩) lost, rfl⟩
  | _ => cases hi

/-- An engine turn runs the same step in both states, by the same choice, or nothing in either. -/
theorem engineTurn_observedAs {s s' : State} {choice : Nat} (h : engineTurn choice s = .next s') (o : State) :
    s'.agenda = s.agenda ∧ ∃ t', engineTurn choice (s.observedAs o) = .next t' ∧ SameSearch s' t' := by
  rw [engineTurn] at h ⊢
  rw [chosenStep_observedAs]
  match hc : chosenStep s choice with
  | none =>
    rw [hc] at h
    obtain rfl := next_inj h
    exact ⟨rfl, _, rfl, rfl⟩
  | some i =>
    rw [hc] at h
    have hi := isEngineStep_of_mem_enabledSteps (chosenStep_mem hc)
    exact ⟨(exec_effect h).engine_agenda hi, (exec_effect h).engine_observedAs hi o⟩

/-- The outside world does no more than choose among the engine steps (log 1). -/
def OnlyEngineInputs (agenda : List Input) : Prop := ∀ x, x ∈ agenda → ∃ choice, x = .engine choice

theorem step_observedAs {s s' : State} (hagenda : OnlyEngineInputs s.agenda) (h : step s = .next s') (o : State) :
    OnlyEngineInputs s'.agenda ∧ ∃ t', step (s.observedAs o) = .next t' ∧ SameSearch s' t' := by
  match ha : s.agenda with
  | [] =>
    rw [step_of_silent ha] at h
    rw [step_of_silent (s := s.observedAs o) ha]
    obtain ⟨hkept, hturn⟩ := engineTurn_observedAs h o
    refine ⟨?_, hturn⟩
    rw [hkept]
    exact hagenda
  | x :: rest =>
    rw [ha] at hagenda
    obtain ⟨choice, rfl⟩ := hagenda x List.mem_cons_self
    rw [step_of_engine ha] at h
    rw [step_of_engine (s := s.observedAs o) ha]
    obtain ⟨hkept, hturn⟩ := engineTurn_observedAs h o
    refine ⟨?_, hturn⟩
    rw [hkept]
    exact fun y hy => hagenda y (List.mem_cons_of_mem _ hy)

theorem run_sameSearch {n : Nat} {s t s' : State} (hagenda : OnlyEngineInputs s.agenda) (hsame : SameSearch s t)
    (h : Host.Core.run core n s = .next s') : ∃ t', Host.Core.run core n t = .next t' ∧ SameSearch s' t' := by
  induction n generalizing s t with
  | zero =>
    obtain rfl := next_inj h
    exact ⟨t, rfl, hsame⟩
  | succ n ih =>
    obtain ⟨u, hu⟩ := exists_step_eq_next s
    obtain ⟨hagenda', v, hv, hsame'⟩ := step_observedAs hagenda hu t
    rw [← (sameSearch_iff s t).1 hsame] at hv
    rw [run_succ hu] at h
    rw [run_succ hv]
    exact ih hagenda' hsame' h

/-! ### The candidates of a sequential search -/

/-- An index below 2^64 is read off its candidate: NONCE is `n0 + k` modulo 2^32, TIME holds the next 32 bits
(44_multi_worker.md R224). -/
theorem cand_injective (n0 t0 : Word) {k k' : Nat} (hk : k < 2 ^ 64) (hk' : k' < 2 ^ 64)
    (h : cand n0 t0 k = cand n0 t0 k') : k = k' := by
  have hnonce := congrArg (fun c : Word × Word => c.1.toNat) h
  have htime := congrArg (fun c : Word × Word => c.2.toNat) h
  simp only [toNat_cand_nonce, toNat_cand_time] at hnonce htime
  omega

/-- Where a sequential search of a silent host stands that started in `s` and has missed `j` times (43_pow_search.md R190). -/
structure MissedTimes (s : State) (j : Nat) (t : State) : Prop where
  searching : t.phase = .searching
  seq : t.multi = false
  live : t.cancel = false
  silent : t.agenda = []
  header : t.header = s.header.withCandidate (cand s.header.nonce s.header.time j)
  target : t.target = s.target
  hashCnt : t.hashCnt = s.hashCnt + BitVec.ofNat 64 j
  foundCnt : t.foundCnt = s.foundCnt

theorem ofNat_count_succ (c : U64) (j : Nat) : c + BitVec.ofNat 64 j + 1 = c + BitVec.ofNat 64 (j + 1) := by
  rw [BitVec.ofNat_add, BitVec.add_assoc]
  rfl

/-- `Advance` on the header is `Advance` on its candidate (43_pow_search.md R185). -/
theorem Header.advanced_withCandidate (h : Header) (c : Word × Word) :
    (h.withCandidate c).advanced = h.withCandidate (advance c) := rfl

/-- In a sequential search the one enabled step runs. -/
theorem step_of_sequential {s : State} (silent : s.agenda = []) (searching : s.phase = .searching)
    (seq : s.multi = false) (live : s.cancel = false) :
    step s = exec .attempt { s with ticks := s.ticks + 1 } := by
  have henabled : enabledSteps { s with ticks := s.ticks + 1 } = [.attempt] :=
    (enabledSteps_of_sequential searching seq).trans (by rw [live]; rfl)
  obtain ⟨i, hi, hturn⟩ :=
    exists_engineTurn_eq_exec (henabled ▸ List.cons_ne_nil _ _) (Config.schedule s.ticks)
  obtain rfl : i = .attempt := List.mem_singleton.1 (henabled ▸ hi)
  exact (step_of_silent silent).trans hturn

theorem missedTimes_zero {s : State} (searching : s.phase = .searching) (seq : s.multi = false)
    (live : s.cancel = false) (silent : s.agenda = []) : MissedTimes s 0 s :=
  ⟨searching, seq, live, silent, by rw [cand_zero]; rfl, rfl, by simp, rfl⟩

namespace MissedTimes
variable {s t : State} {j : Nat} (h : MissedTimes s j t)
include h

theorem enabled : ({ t with ticks := t.ticks + 1 } : State).attemptEnabled = true :=
  (State.attemptEnabled_iff _).2 ⟨h.searching, h.seq, h.live⟩

/-- One more miss. -/
theorem miss (misses : s.target < headerDigest (s.header.withCandidate (cand s.header.nonce s.header.time j))) :
    ∃ u, step t = .next u ∧ MissedTimes s (j + 1) u := by
  have hlt : t.target < headerDigest t.header := by rwa [h.target, h.header]
  refine ⟨_, (step_of_sequential h.silent h.searching h.seq h.live).trans (exec_attempt_of_lt h.enabled hlt), ?_⟩
  refine ⟨by simp [h.searching], by simp [h.seq], by simp [h.live], by simp [h.silent], ?_, by simp [h.target], ?_,
    by simp [h.foundCnt]⟩
  · rw [State.attemptFails_header]
    show t.header.advanced = _
    rw [h.header, Header.advanced_withCandidate, cand_succ]
  · rw [State.attemptFails_hashCnt]
    show t.hashCnt + 1 = _
    rw [h.hashCnt, ofNat_count_succ]

/-- The first candidate that meets the target ends the search. -/
theorem win (meets : headerDigest (s.header.withCandidate (cand s.header.nonce s.header.time j)) ≤ s.target) :
    ∃ u, step t = .next u ∧ u.phase = .found ∧ u.winner = true ∧
      u.header = s.header.withCandidate (cand s.header.nonce s.header.time j) ∧ u.digest = headerDigest u.header ∧
      u.hashCnt = s.hashCnt + BitVec.ofNat 64 (j + 1) ∧ u.foundCnt = s.foundCnt + 1 ∧ u.target = s.target := by
  have hle : headerDigest t.header ≤ t.target := by rwa [h.target, h.header]
  refine ⟨_, (step_of_sequential h.silent h.searching h.seq h.live).trans (exec_attempt_of_le h.enabled hle), ?_⟩
  refine ⟨rfl, rfl, by simp [h.header], ?_, ?_, by simp [h.foundCnt], by simp [h.target]⟩
  · rw [State.attemptWins_digest, State.attemptWins_header]
  · rw [State.attemptWins_hashCnt]
    show t.hashCnt + 1 = _
    rw [h.hashCnt, ofNat_count_succ]

end MissedTimes

theorem exists_run_missedTimes {s : State} (hstart : MissedTimes s 0 s) {j : Nat}
    (misses : ∀ i, i < j → s.target < headerDigest (s.header.withCandidate (cand s.header.nonce s.header.time i))) :
    ∃ t, Host.Core.run core j s = .next t ∧ MissedTimes s j t := by
  induction j with
  | zero => exact ⟨s, rfl, hstart⟩
  | succ j ih =>
    obtain ⟨t, hrun, ht⟩ := ih fun i hi => misses i (Nat.lt_succ_of_lt hi)
    obtain ⟨u, hstep, hu⟩ := ht.miss (misses j (Nat.lt_succ_self j))
    exact ⟨u, run_succ_of_run hrun hstep, hu⟩

end Sys2Proof.Machine

namespace Sys2Proof.Proofs

open Sys2Proof.Machine

/-- Settles O32: by induction over the run, both states taking the same engine step at each turn. -/
theorem observationNeverAffectsTheSearch : Obligations.ObservationNeverAffectsTheSearch :=
  fun _ _ _ _ => run_sameSearch

/-- Settles O51: NONCE and TIME together hold the index, offset by the base, modulo 2^64. -/
theorem candidatesAreDistinct : Obligations.CandidatesAreDistinct :=
  fun n0 t0 _ _ => cand_injective n0 t0

/-- Settles O52: by induction over the misses, and one more step where the next candidate meets the target. -/
theorem sequentialSearchFindsTheFirst : Obligations.SequentialSearchFindsTheFirst := by
  intro s j searching seq live silent misses
  obtain ⟨t, hrun, ht⟩ := exists_run_missedTimes (missedTimes_zero searching seq live silent) misses
  refine ⟨⟨t, hrun, ht.searching, ht.header, ht.target, ht.hashCnt, ht.foundCnt⟩, fun meets => ?_⟩
  obtain ⟨u, hstep, hu⟩ := ht.win meets
  exact ⟨u, run_succ_of_run hrun hstep, hu⟩

end Sys2Proof.Proofs
end

section
/-! Proofs about the end of a cancelled search (44_multi_worker.md R221, R222): the draining measure falls at every engine step
that does not end the search, and the host cannot raise it. -/

namespace Sys2Proof.Machine

/-! ### The draining measure -/

theorem sum_set_lt {l : List Nat} {i n : Nat} (hi : i < l.length) (hn : n < l[i]) : (l.set i n).sum < l.sum := by
  induction l generalizing i with
  | nil => cases hi
  | cons a l ih =>
    cases i with
    | zero => simpa using hn
    | succ i => simpa using ih (by simpa using hi) (by simpa using hn)

/-- A lane that comes nearer to Off brings the search nearer to its end. -/
theorem State.drain_lt_of_lane {s t : State} {i : Nat} {l : LaneState} (hl : t.lanes = s.lanes.set i l)
    (hr : t.range = s.range) (hi : s.lane i ≠ .off)
    (hd : drainOf s.range.toNat l < drainOf s.range.toNat (s.lane i)) : t.drain < s.drain := by
  have hlt := State.lane_lt hi
  have hget : s.lane i = s.lanes[i] := by simp [State.lane, hlt]
  rw [State.drain, State.drain, hl, hr, List.map_set]
  exact sum_set_lt (by simpa using hlt) (by simpa [← hget] using hd)

/-- A position is one lane step nearer to the claim at the end of its range than the one before it. -/
theorem State.drainOf_nextPosition_lt {s : State} {base : U64} {idx : Nat} (h : idx < s.range.toNat) :
    drainOf s.range.toNat (s.nextPosition base idx) < drainOf s.range.toNat (.work base idx) := by
  unfold State.nextPosition
  split <;> simp only [drainOf] <;> omega

/-! ### A cancelled search -/

/-- A search that runs, in a state that meets the invariant, with CANCEL set. -/
structure State.Cancelled (s : State) : Prop where
  inv : s.Inv
  searching : s.phase = .searching
  cancelled : s.cancel = true

theorem State.Cancelled.with_agenda_ticks {s : State} (h : s.Cancelled) (agenda : List Input) (ticks : Nat) :
    ({ s with agenda := agenda, ticks := ticks } : State).Cancelled :=
  ⟨h.inv.with_agenda_ticks agenda ticks, h.searching, h.cancelled⟩

/-- An engine step of a cancelled search ends it or brings it nearer to its end. -/
theorem Effect.engine_drains {i : Instr} {s t : State} (h : Effect i s t) (hi : i.isEngineStep = true)
    (hs : s.Cancelled) : t.searchEnded ∨ (t.cancel = true ∧ t.drain < s.drain) := by
  obtain ⟨hinv, -, hc⟩ := hs
  cases h with
  | rejected _ _ _ _ host => rw [hi] at host; cases host
  | attemptWins _ _ _ _ live | attemptFails _ _ _ _ live | laneClaims _ _ _ _ _ live => rw [hc] at live; cases live
  | seqCancel | finishFound | finishStopped => exact .inl nofun
  | laneLeaves k _ _ _ claims =>
    exact .inr ⟨hc, State.drain_lt_of_lane rfl rfl (by simp [claims]) (by simp [claims, drainOf])⟩
  | laneWins k _ base idx _ _ _ works =>
    exact .inr ⟨rfl, State.drain_lt_of_lane rfl rfl (by simp [works]) (by simp [works, drainOf])⟩
  | laneGoesOn k _ base idx d _ _ works =>
    refine .inr ⟨(s.laneGoesOn_cancel k base idx d).trans hc, ?_⟩
    apply State.drain_lt_of_lane (s.laneGoesOn_lanes k base idx d) (s.laneGoesOn_range k base idx d) (by simp [works])
    rw [works]
    exact State.drainOf_nextPosition_lt (hinv.workInRange k base idx works)
  | _ => cases hi

/-- What a host operation leaves of a cancelled search: all of it, or it ends the search. -/
theorem Effect.host_keeps_drain {i : Instr} {s t : State} (h : Effect i s t) (hi : i.isEngineStep = false)
    (hs : s.Cancelled) :
    t.searchEnded ∨ (t.cancel = true ∧ t.drain = s.drain ∧ enabledSteps t = enabledSteps s) := by
  obtain ⟨-, hp, hc⟩ := hs
  cases h.busy_host hi (by simp [hp]) with
  | observes => exact .inr ⟨hc, rfl, rfl⟩
  | stops => exact .inr ⟨rfl, rfl, by simp only [← hc]⟩
  | acks | resets => exact .inl nofun

/-- A step of a cancelled search ends it, brings it nearer to its end, or leaves the lanes and their steps as they were. -/
theorem State.Cancelled.of_step {s t : State} (hs : s.Cancelled) (h : step s = .next t) : t.searchEnded ∨
    (t.Cancelled ∧ (t.drain < s.drain ∨ t.drain = s.drain ∧ enabledSteps t = enabledSteps s)) := by
  by_cases hp : t.phase = .searching
  · have hinv := step_keeps_inv hs.inv h
    refine .inr ?_
    obtain ⟨agenda, ticks, ⟨i, hi⟩ | rfl | rfl⟩ := step_cases h
    · have hs' := hs.with_agenda_ticks agenda ticks
      cases hengine : i.isEngineStep with
      | true =>
        obtain ⟨hc, hlt⟩ := ((exec_effect hi).engine_drains hengine hs').resolve_left (not_not.2 hp)
        exact ⟨⟨hinv, hp, hc⟩, .inl hlt⟩
      | false =>
        obtain ⟨hc, hkept⟩ := ((exec_effect hi).host_keeps_drain hengine hs').resolve_left (not_not.2 hp)
        exact ⟨⟨hinv, hp, hc⟩, .inr hkept⟩
    · cases hp
    · exact ⟨hs.with_agenda_ticks agenda ticks, .inr ⟨rfl, rfl⟩⟩
  · exact .inl hp

/-- While a search runs some engine step is enabled (43_pow_search.md R188; 44_multi_worker.md R219, R222). -/
theorem enabledSteps_ne_nil {s : State} (h : s.phase = .searching) : enabledSteps s ≠ [] := by
  cases hm : s.multi with
  | false =>
    rw [enabledSteps_of_sequential h hm]
    exact List.cons_ne_nil _ _
  | true =>
    by_cases hoff : ∀ k, s.lane k = .off
    · have hmem := (finish_mem_enabledSteps s).2 ⟨h, hm, s.allLanesOff_iff.1 (State.allLanesOff_of_lane hoff)⟩
      exact List.ne_nil_of_mem hmem
    · obtain ⟨k, hk⟩ := not_forall.1 hoff
      cases hl : s.lane k with
      | off => exact absurd hl hk
      | claim => exact List.ne_nil_of_mem ((laneClaim_mem_enabledSteps s k).2 ⟨h, hm, hl⟩)
      | work base idx => exact List.ne_nil_of_mem ((laneAttempt_mem_enabledSteps s k).2 ⟨h, hm, base, idx, hl⟩)

/-! ### A silent host -/

/-- With a silent host each step of a cancelled search is an engine step, whatever the schedule. -/
theorem State.Cancelled.silent_step {s : State} (hs : s.Cancelled) (silent : s.agenda = []) :
    ∃ t, step s = .next t ∧ (t.searchEnded ∨ (t.Cancelled ∧ t.agenda = [] ∧ t.drain < s.drain)) := by
  obtain ⟨i, hi, hturn⟩ := exists_engineTurn_eq_exec (s := { s with ticks := s.ticks + 1 })
    (enabledSteps_ne_nil hs.searching) (Config.schedule s.ticks)
  obtain ⟨t, ht⟩ := exists_exec_eq_next_of_enabled hi
  have hstep : step s = .next t := (step_of_silent silent).trans (hturn.trans ht)
  have hengine := isEngineStep_of_mem_enabledSteps hi
  have heff := exec_effect ht
  refine ⟨t, hstep, ?_⟩
  by_cases hp : t.phase = .searching
  · obtain ⟨hc, hlt⟩ := (heff.engine_drains hengine (hs.with_agenda_ticks s.agenda _)).resolve_left (not_not.2 hp)
    exact .inr ⟨⟨step_keeps_inv hs.inv hstep, hp, hc⟩, (heff.engine_agenda hengine).trans silent, hlt⟩
  · exact .inl hp

theorem State.Cancelled.ends_within {d : Nat} {s : State} (hs : s.Cancelled) (silent : s.agenda = [])
    (hd : s.drain < d) : ∃ n t, n ≤ d ∧ Host.Core.run core n s = .next t ∧ t.searchEnded := by
  induction d generalizing s with
  | zero => cases hd
  | succ d ih =>
    obtain ⟨t, hstep, hended | ⟨ht, hsilent, hlt⟩⟩ := hs.silent_step silent
    · exact ⟨1, t, by omega, run_succ hstep 0, hended⟩
    · obtain ⟨n, u, hn, hrun, hended⟩ := ih ht hsilent (by omega)
      exact ⟨n + 1, u, by omega, (run_succ hstep n).trans hrun, hended⟩

/-! ### Weakly fair runs -/

/-- What is taken up runs in the state without its input. -/
theorem fetch_eq_run {s s' : State} {i : Instr} (h : fetch s = .run i s') :
    ∃ agenda ticks, s' = { s with agenda := agenda, ticks := ticks } := by
  unfold fetch at h
  split at h
  next ha =>
    unfold fetchEngine at h
    split at h <;> cases h
    exact ⟨_, _, rfl⟩
  next a rest ha =>
    unfold fetchBus at h
    split at h <;> cases h
    exact ⟨_, _, rfl⟩
  next choice rest ha =>
    unfold fetchEngine at h
    split at h <;> cases h
    exact ⟨_, _, rfl⟩
  next => cases h

section
variable {r : Nat → State} (hrun : IsRun r) (hon : ∀ n, (r n).phase = .searching)
include hrun hon

/-- One step of a run in which the search goes on. -/
theorem cancelled_run_step (n : Nat) (hn : (r n).Cancelled) : (r (n + 1)).Cancelled ∧
    ((r (n + 1)).drain < (r n).drain ∨
      (r (n + 1)).drain = (r n).drain ∧ enabledSteps (r (n + 1)) = enabledSteps (r n)) := by
  obtain ⟨t, agenda, hstep, heq⟩ := hrun n
  have hp : t.phase = .searching := by simpa [heq] using hon (n + 1)
  obtain ⟨ht, hdrain⟩ := (hn.of_step hstep).resolve_left (not_not.2 hp)
  rw [heq]
  exact ⟨ht.with_agenda_ticks agenda _, hdrain⟩

variable (hstart : (r 0).Cancelled)
include hstart

theorem cancelled_run (n : Nat) : (r n).Cancelled := by
  induction n with
  | zero => exact hstart
  | succ n ih => exact (cancelled_run_step hrun hon n ih).1

/-- As long as the measure does not fall, the enabled steps stay as they are. -/
theorem enabledSteps_of_drain_le {n : Nat} (hle : ∀ m, n ≤ m → (r n).drain ≤ (r m).drain) (m : Nat) (hm : n ≤ m) :
    (r m).drain = (r n).drain ∧ enabledSteps (r m) = enabledSteps (r n) := by
  induction m, hm using Nat.le_induction with
  | base => exact ⟨rfl, rfl⟩
  | succ m hm ih =>
    obtain ⟨hdrain, henabled⟩ := ih
    have hge := hle (m + 1) (Nat.le_succ_of_le hm)
    obtain hlt | ⟨hd, he⟩ := (cancelled_run_step hrun hon m (cancelled_run hrun hon hstart m)).2
    · omega
    · exact ⟨hd.trans hdrain, he.trans henabled⟩

/-- A taken engine step brings the search nearer to its end. -/
theorem drain_lt_of_takenAt {i : Instr} {n : Nat} (hi : i.isEngineStep = true) (htaken : TakenAt r i n) :
    (r (n + 1)).drain < (r n).drain := by
  obtain ⟨s', hfetch⟩ := htaken
  obtain ⟨t, agenda, hstep, heq⟩ := hrun n
  obtain ⟨agenda', ticks, rfl⟩ := fetch_eq_run hfetch
  rw [step_of_fetch_run hfetch] at hstep
  have hs := (cancelled_run hrun hon hstart n).with_agenda_ticks agenda' ticks
  have hp : t.phase = .searching := by simpa [heq] using hon (n + 1)
  rw [heq]
  exact (((exec_effect hstep).engine_drains hi hs).resolve_left (not_not.2 hp)).2

/-- In a weakly fair run in which the search goes on the measure falls again and again. -/
theorem exists_drain_lt (hfair : WeaklyFair r) (n : Nat) : ∃ m, (r m).drain < (r n).drain := by
  by_contra hnone
  have hle : ∀ m, n ≤ m → (r n).drain ≤ (r m).drain := fun m _ => Nat.not_lt.1 fun hlt => hnone ⟨m, hlt⟩
  have hsteps := enabledSteps_of_drain_le hrun hon hstart hle
  obtain ⟨i, hi⟩ := List.exists_mem_of_ne_nil _ (enabledSteps_ne_nil (hon n))
  obtain ⟨m, hm, htaken⟩ := hfair i n fun m hm => (hsteps m hm).2 ▸ hi
  have hlt := drain_lt_of_takenAt hrun hon hstart (isEngineStep_of_mem_enabledSteps hi) htaken
  exact hnone ⟨m + 1, (hsteps m hm).1 ▸ hlt⟩

end

theorem exists_searchEnded_of_weaklyFair {r : Nat → State} (hrun : IsRun r) (hfair : WeaklyFair r)
    (hstart : (r 0).Cancelled) : ∃ n, (r n).searchEnded := by
  by_contra hnone
  have hon : ∀ n, (r n).phase = .searching := fun n => not_not.1 fun hp => hnone ⟨n, hp⟩
  obtain ⟨m, hm⟩ := exists_drain_lt hrun hon hstart hfair (Function.argmin fun n => (r n).drain)
  exact Function.not_lt_argmin (fun n => (r n).drain) m hm

end Sys2Proof.Machine

namespace Sys2Proof.Proofs

open Sys2Proof.Machine

/-- Settles O56: each step of the silent host's search ends it or lowers the measure. -/
theorem cancelledSearchEndsInBoundedSteps : Obligations.CancelledSearchEndsInBoundedSteps :=
  fun _ hinv searching cancelled silent =>
    State.Cancelled.ends_within ⟨hinv, searching, cancelled⟩ silent (Nat.lt_succ_self _)

/-- Settles O57: if the search never ended, the measure would fall without end. -/
theorem fairRunsEndACancelledSearch : Obligations.FairRunsEndACancelledSearch :=
  fun _ hrun hfair hinv searching cancelled => exists_searchEnded_of_weaklyFair hrun hfair ⟨hinv, searching, cancelled⟩

end Sys2Proof.Proofs
end

section
/-! Proofs about the register map and host access (10_state.md; 20_memory.md; 45_host_access.md): the table, what a read
returns and a write stores, the rejections, and the header in the register window. -/

namespace Sys2Proof.Machine

/-! ### The register table -/

theorem regAt_offset (r : RegName) : regAt r.offset = some r := by
  cases r with
  | prev j | merkle j | limit j | target j | digest j | progDigest j => revert j; decide
  | _ => rfl

theorem offset_lt (r : RegName) : r.offset < 0x114 := by
  cases r with
  | prev j | merkle j | limit j | target j | digest j | progDigest j => revert j; decide
  | _ => decide

theorem regAt_eq_some {o : Nat} {r : RegName} (h : regAt o = some r) : o = r.offset := by
  have hrows : ∀ row ∈ registerTable, row.1 = row.2.offset := by decide
  obtain ⟨row, hrow, rfl⟩ := Option.map_eq_some_iff.1 h
  have ho : row.1 = o := by simpa using List.find?_some hrow
  exact ho ▸ hrows row (List.mem_of_find?_eq_some hrow)

theorem isSome_regAt {o : Nat} (haligned : o % 4 = 0) (h : o < 0x114) : (regAt o).isSome = true := by
  have hwords : ∀ w < 69, (regAt (4 * w)).isSome = true := by decide
  have ho : 4 * (o / 4) = o := by omega
  exact ho ▸ hwords (o / 4) (by omega)

theorem regAt_eq_none {o : Nat} (h : 0x114 ≤ o) : regAt o = none := by
  cases hr : regAt o with
  | none => rfl
  | some r =>
    have hlt := offset_lt r
    have ho := regAt_eq_some hr
    omega

/-! ### Access checks -/

theorem misaligned_iff (offset : Offset) (size : Nat) :
    misaligned offset size = true ↔ size ≠ 4 ∨ offset.toNat % 4 ≠ 0 := by
  simp [misaligned]

theorem accessError_of_misaligned (s : State) (isWrite : Bool) {offset : Offset} {size : Nat}
    (h : size ≠ 4 ∨ offset.toNat % 4 ≠ 0) : accessError s isWrite offset size = some .align :=
  if_pos ((misaligned_iff offset size).2 h)

theorem accessError_of_unmapped (s : State) (isWrite : Bool) {offset : Offset} (haligned : offset.toNat % 4 = 0)
    (h : 0x114 ≤ offset.toNat) : accessError s isWrite offset 4 = some .addr := by
  simp [accessError, misaligned, haligned, regAt_eq_none h]

theorem exec_rd_rejected {s : State} {offset : Offset} {size : Nat} {code : ErrCode}
    (h : accessError s false offset size = some code) :
    exec (.rd offset size) s = .next { s.raise code (offset.setWidth 24) with rdata := 0 } := by
  simp only [exec, execRd, h, offsetInfo]

theorem exec_wr_rejected {s : State} {offset : Offset} {size : Nat} {v : Word} {code : ErrCode}
    (h : accessError s true offset size = some code) :
    exec (.wr offset size v) s = .next (s.raise code (offset.setWidth 24)) := by
  simp only [exec, execWr, h, offsetInfo]

/-! ### What a read returns -/

theorem exec_rd_of_regAt (s : State) {offset : Offset} {r : RegName} (h : regAt offset.toNat = some r) :
    exec (.rd offset 4) s = .next { s with rdata := readReg s r } := by
  have haccepted : accessError s false offset 4 = none := by simp [accessError, misaligned_of_regAt h, h]
  simp only [exec, execRd, haccepted, readValue, h]

/-- A read at a register's offset, its value as a number. -/
theorem exec_rd_offset (s : State) (r : RegName) {n : Nat} (h : readReg s r = BitVec.ofNat 32 n) :
    exec (.rd (BitVec.ofNat 12 r.offset) 4) s = .next { s with rdata := BitVec.ofNat 32 n } := by
  have hlt := offset_lt r
  rw [← h]
  apply exec_rd_of_regAt
  rw [ofNat_toNat_of_window (by omega), regAt_offset]

theorem setWidth_eq_ofNat {n : Nat} (v : BitVec n) : v.setWidth 32 = BitVec.ofNat 32 v.toNat := by
  apply BitVec.eq_of_toNat_eq
  rw [BitVec.toNat_setWidth, BitVec.toNat_ofNat]

theorem wordOf_eq_ofNat (v : U256) (j : Nat) : wordOf v j = BitVec.ofNat 32 (v.toNat / 2 ^ (32 * j)) := by
  apply BitVec.eq_of_toNat_eq
  rw [toNat_wordOf, BitVec.toNat_ofNat]

theorem lo32_eq_ofNat (v : U64) : lo32 v = BitVec.ofNat 32 v.toNat := by
  apply BitVec.eq_of_toNat_eq
  simp [lo32, BitVec.extractLsb'_toNat]

theorem hi32_eq_ofNat (v : U64) : hi32 v = BitVec.ofNat 32 (v.toNat / 2 ^ 32) := by
  apply BitVec.eq_of_toNat_eq
  simp [hi32, BitVec.extractLsb'_toNat, Nat.shiftRight_eq_div_pow]

theorem State.ctrlWord_eq_ofNat (s : State) : s.ctrlWord = BitVec.ofNat 32 (s.clamp.toNat + 2 * s.multi.toNat) := by
  rw [State.ctrlWord]
  cases s.clamp <;> cases s.multi <;> rfl

/-! ### Events -/

/-- The irq output is high exactly when some event is pending and enabled (60_exceptions.md R270). -/
theorem State.irq_iff (s : State) : s.irq = true ↔
    ∃ b, b < 4 ∧ s.irqStatus.getLsbD b = true ∧ s.irqEnable.getLsbD b = true := by
  have hbit (b : Nat) : (s.irqStatus &&& s.irqEnable).getLsbD b = true ↔
      s.irqStatus.getLsbD b = true ∧ s.irqEnable.getLsbD b = true := by
    rw [BitVec.getLsbD_and, Bool.and_eq_true]
  rw [State.irq, bne_iff_ne]
  constructor
  · intro hne
    by_contra hnone
    refine hne (BitVec.eq_of_getLsbD_eq fun b hb => ?_)
    exact (Bool.eq_false_iff.2 fun h => hnone ⟨b, hb, (hbit b).1 h⟩).trans BitVec.getLsbD_zero.symm
  · rintro ⟨b, -, hb⟩ hzero
    have hset := hzero ▸ (hbit b).2 hb
    exact Bool.false_ne_true (BitVec.getLsbD_zero.symm.trans hset)

/-! ### What a write stores -/

theorem and_mask_all (v : Word) : v &&& 0xFFFFFFFF = v := BitVec.and_allOnes

/-- A mask of `n` low bits keeps the bits below `n`. -/
theorem getElem_and_lowMask (v : Word) (n k : Nat) (hk : k < 32) :
    (v &&& (BitVec.allOnes n).setWidth 32)[k] = (v[k] && decide (k < n)) := by
  simp

/-- CTRL keeps the two implemented bits of what is written (10_state.md R38). -/
theorem readReg_writeReg_ctrl (s : State) (v : Word) : readReg (writeReg s v .ctrl) .ctrl = v &&& 3 := by
  apply BitVec.eq_of_getElem_eq
  intro k hk
  show (bitAt (v.getLsbD 0) 0 ||| bitAt (v.getLsbD 1) 1)[k] = (v &&& (BitVec.allOnes 2).setWidth 32)[k]
  rw [getElem_and_lowMask, BitVec.getElem_or, getElem_bitAt, getElem_bitAt]
  match k with
  | 0 | 1 => simp
  | k + 2 => simp

/-- IRQ_ENABLE keeps the four implemented bits of what is written (10_state.md R42). -/
theorem readReg_writeReg_irqEnable (s : State) (v : Word) :
    readReg (writeReg s v .irqEnable) .irqEnable = v &&& 15 := by
  apply BitVec.eq_of_getElem_eq
  intro k hk
  show ((v.extractLsb' 0 4).setWidth 32)[k] = (v &&& (BitVec.allOnes 4).setWidth 32)[k]
  rw [getElem_and_lowMask]
  simp [hk, Bool.and_comm]

/-- The implemented bits of a register that the host can write in some state (45_host_access.md R242). -/
theorem readReg_writeReg_same (s : State) (v : Word) {r : RegName} (h : r.access = .rw ∨ r.access = .rwl) :
    readReg (writeReg s v r) r = v &&& (if r = .ctrl then 3 else if r = .irqEnable then 15 else 0xFFFFFFFF) := by
  cases r with
  | ctrl => exact readReg_writeReg_ctrl s v
  | irqEnable => exact readReg_writeReg_irqEnable s v
  | prev j | merkle j | limit j | target j | digest j =>
    exact (wordOf_setWordOf_same _ j j.isLt v).trans (and_mask_all v).symm
  | version | time | bits | nonce | progInterval | range | nwork => exact (and_mask_all v).symm
  | _ => rcases h with h | h <;> cases h

/-- A store changes no other register word (45_host_access.md R242). -/
theorem readReg_writeReg_of_ne (s : State) (v : Word) {r r' : RegName} (h : r.access = .rw ∨ r.access = .rwl)
    (hne : r' ≠ r) : readReg (writeReg s v r) r' = readReg s r' := by
  have word (u : U256) (j k : Fin 8) (hkj : k ≠ j) : wordOf (setWordOf u j v) k = wordOf u k :=
    wordOf_setWordOf_ne u k j k.isLt (fun heq => hkj (Fin.ext heq)) v
  cases r with
  | version | time | bits | nonce | progInterval | ctrl | irqEnable | range | nwork => cases r' <;> trivial
  | prev j => cases r' with | prev k => exact word _ j k fun hkj => hne (hkj ▸ rfl) | _ => rfl
  | merkle j => cases r' with | merkle k => exact word _ j k fun hkj => hne (hkj ▸ rfl) | _ => rfl
  | limit j => cases r' with | limit k => exact word _ j k fun hkj => hne (hkj ▸ rfl) | _ => rfl
  | target j => cases r' with | target k => exact word _ j k fun hkj => hne (hkj ▸ rfl) | _ => rfl
  | digest j => cases r' with | digest k => exact word _ j k fun hkj => hne (hkj ▸ rfl) | _ => rfl
  | _ => rcases h with h | h <;> cases h

/-- A store leaves the hidden state and the model's own fields. -/
theorem writeReg_hidden (s : State) (v : Word) (r : RegName) :
    (writeReg s v r).lanes = s.lanes ∧ (writeReg s v r).baseNonce = s.baseNonce ∧
      (writeReg s v r).baseTime = s.baseTime ∧ (writeReg s v r).rdata = s.rdata ∧
      (writeReg s v r).agenda = s.agenda ∧ (writeReg s v r).ticks = s.ticks := by
  cases r <;> exact ⟨rfl, rfl, rfl, rfl, rfl, rfl⟩

/-! ### The header in the register window -/

/-- The registers below 0x50 (10_state.md R20). -/
theorem headerReg_cases {r : RegName} (h : r.offset < 0x50) : r = .version ∨ (∃ j, r = .prev j) ∨
    (∃ j, r = .merkle j) ∨ r = .time ∨ r = .bits ∨ r = .nonce := by
  cases r with
  | version | prev | merkle | time | bits | nonce => simp
  | limit j | target j | digest j | progDigest j =>
    simp only [RegName.offset] at h
    omega
  | _ => exact absurd h (by decide)

/-- The registers below 0x50 are the twenty header words in their order (20_memory.md R66). -/
theorem headerWords_readReg (s : State) {r : RegName} (h : r.offset < 0x50) :
    (headerWords s.header)[r.offset / 4]? = some (readReg s r) := by
  rcases headerReg_cases h with rfl | ⟨j, rfl⟩ | ⟨j, rfl⟩ | rfl | rfl | rfl
  · rfl
  · fin_cases j <;> rfl
  · fin_cases j <;> rfl
  · rfl
  · rfl
  · rfl

theorem map_wordOf_setWordOf (v : U256) (j : Fin 8) (w : Word) :
    (List.range 8).map (wordOf (setWordOf v j w)) = ((List.range 8).map (wordOf v)).set j w := by
  apply List.ext_getElem (by simp)
  intro k hk _
  have hk : k < 8 := by simpa using hk
  by_cases hjk : j.val = k
  · subst hjk
    simp [wordOf_setWordOf_same _ _ hk]
  · simp [hjk, wordOf_setWordOf_ne _ _ _ hk (Ne.symm hjk)]

/-- A store below 0x50 replaces its one word of the header and touches nothing else. -/
theorem writeReg_headerWords (s : State) (v : Word) {r : RegName} (h : r.offset < 0x50) :
    ∃ g, writeReg s v r = { s with header := g } ∧ headerWords g = (headerWords s.header).set (r.offset / 4) v := by
  rcases headerReg_cases h with rfl | ⟨j, rfl⟩ | ⟨j, rfl⟩ | rfl | rfl | rfl
  · exact ⟨_, rfl, rfl⟩
  · have hpos : (RegName.prev j).offset / 4 = j + 1 := by simp only [RegName.offset]; omega
    exact ⟨_, rfl, by simp [headerWords, map_wordOf_setWordOf, hpos]⟩
  · have hpos : (RegName.merkle j).offset / 4 = j + 9 := by simp only [RegName.offset]; omega
    exact ⟨_, rfl, by simp [headerWords, map_wordOf_setWordOf, hpos]⟩
  · exact ⟨_, rfl, rfl⟩
  · exact ⟨_, rfl, rfl⟩
  · exact ⟨_, rfl, rfl⟩

theorem headerWords_injective : Function.Injective headerWords := by
  intro g h heq
  apply serialize_injective
  rw [serialize_eq_flatMap, serialize_eq_flatMap, heq]

/-- Byte `i` of a row of words is byte `i mod 4` of word `i / 4`, least significant first. -/
theorem getElem?_flatMap_le32 {ws : List Word} {i : Nat} {w : Word} (h : ws[i / 4]? = some w) :
    (ws.flatMap le32)[i]? = some (w.extractLsb' (8 * (i % 4)) 8) := by
  have hslice := congrArg (·[i % 4]?) (slice_flatMap length_le32 h)
  simp only [slice, List.getElem?_take, List.getElem?_drop, Nat.mod_lt i (show 0 < 4 by decide), if_true,
    Nat.div_add_mod] at hslice
  rw [hslice]
  have hlt := Nat.mod_lt i (show 0 < 4 by decide)
  generalize i % 4 = m at hlt
  interval_cases m <;> rfl

/-- The register at each of the twenty offsets of the header. -/
theorem exists_headerReg {k : Nat} (h : k < 20) : ∃ r, regAt (4 * k) = some r ∧ r.offset = 4 * k := by
  obtain ⟨r, hr⟩ := Option.isSome_iff_exists.1 (isSome_regAt (o := 4 * k) (by omega) (by omega))
  exact ⟨r, hr, (regAt_eq_some hr).symm⟩

/-! ### Writing the header window -/

/-- The input that writes word `k` of the serialised header (30_encoding.md R107). -/
theorem getElem?_scriptWrHdr {h : Header} {k : Nat} {w : Word} (hw : (headerWords h)[k]? = some w) :
    (scriptWrHdr (serialize h))[k]? = some (.bus (.write (4 * k) 4 w)) := by
  have hk : k < 20 := length_headerWords h ▸ (List.getElem?_eq_some_iff.1 hw).1
  rw [serialize_eq_flatMap]
  simp [scriptWrHdr, hk, slice_flatMap length_le32 hw, ofNat_intLe_le32]

/-- In Idle a write below 0x50 at the head of the agenda replaces its one word of the header. -/
theorem step_of_header_write {s : State} {k : Nat} {w : Word} {rest : List Input} (hk : k < 20) (hp : s.phase = .idle)
    (ha : s.agenda = .bus (.write (4 * k) 4 w) :: rest) :
    ∃ g, step s = .next { s with header := g, agenda := rest } ∧ headerWords g = (headerWords s.header).set k w := by
  obtain ⟨r, hr, ho⟩ := exists_headerReg hk
  have hoffset := ofNat_toNat_of_window (offset := 4 * k) (by omega)
  have hlow : r.offset < 0x50 := by omega
  obtain ⟨hcmd, hrwl⟩ : r ≠ .cmd ∧ r.access = .rwl := by
    rcases headerReg_cases hlow with rfl | ⟨j, rfl⟩ | ⟨j, rfl⟩ | rfl | rfl | rfl <;> exact ⟨nofun, rfl⟩
  have hplain : isCommandWrite (BitVec.ofNat 12 (4 * k)) 4 = false := by
    rw [Bool.eq_false_iff, ne_eq, isCommandWrite_iff, hoffset]
    rintro ⟨heq, -⟩
    rw [cmdOffset] at heq
    omega
  have hdecode := decodeAccess_write w hplain
  rw [hoffset] at hdecode
  obtain ⟨g, hstore, hwords⟩ := writeReg_headerWords { s with agenda := rest } w hlow
  refine ⟨g, ?_, ?_⟩
  · rw [step_of_bus ha hdecode, ← hstore]
    exact exec_wr_accepted _ w (hoffset.symm ▸ hr) hcmd (by simp [hrwl]) fun _ => hp
  · rw [hwords, ho, Nat.mul_div_cancel_left k (by decide)]

theorem take_succ_set_of_getElem? {l m : List Word} {k : Nat} {w : Word} (hl : k < l.length)
    (htake : l.take k = m.take k) (hw : m[k]? = some w) : (l.set k w).take (k + 1) = m.take (k + 1) := by
  rw [List.take_add_one, List.take_add_one, hw, List.take_set_of_le (Nat.le_refl k), htake,
    List.getElem?_set_self hl]

/-- After `k` of the twenty writes the first `k` words of the header are the new ones. -/
theorem run_header_writes {s : State} {h : Header} {rest : List Input} (hp : s.phase = .idle)
    (ha : s.agenda = scriptWrHdr (serialize h) ++ rest) (k : Nat) (hk : k ≤ 20) :
    ∃ g, Host.Core.run core k s =
        .next { s with header := g, agenda := (scriptWrHdr (serialize h)).drop k ++ rest } ∧
      (headerWords g).take k = (headerWords h).take k := by
  induction k with
  | zero => exact ⟨s.header, by rw [List.drop_zero, ← ha]; rfl, rfl⟩
  | succ k ih =>
    obtain ⟨g, hrun, htake⟩ := ih (by omega)
    have hlen : k < (headerWords h).length := by rw [length_headerWords]; omega
    have hw := List.getElem?_eq_getElem hlen
    have hdrop : (scriptWrHdr (serialize h)).drop k =
        .bus (.write (4 * k) 4 (headerWords h)[k]) :: (scriptWrHdr (serialize h)).drop (k + 1) := by
      rw [List.drop_eq_getElem?_toList_append, getElem?_scriptWrHdr hw]
      rfl
    rw [hdrop] at hrun
    obtain ⟨g', hstep, hwords⟩ := step_of_header_write (k := k) (by omega)
      (s := { s with header := g, agenda := _ :: ((scriptWrHdr (serialize h)).drop (k + 1) ++ rest) }) hp rfl
    refine ⟨g', run_succ_of_run hrun hstep, ?_⟩
    rw [hwords]
    exact take_succ_set_of_getElem? (by rw [length_headerWords]; omega) htake hw

end Sys2Proof.Machine

namespace Sys2Proof.Proofs

open Sys2Proof.Machine

/-- Settles O20: each register by its offset, each row of the table, and each of the 69 words. -/
theorem registerTableIsExact : Obligations.RegisterTableIsExact :=
  ⟨fun r => ⟨regAt_offset r, regAt_mod_four (regAt_offset r), offset_lt r⟩, fun _ _ => regAt_eq_some,
    fun _ => isSome_regAt⟩

/-- Settles O23: by whether an error is recorded. -/
theorem firstErrorIsKept : Obligations.FirstErrorIsKept := by
  refine fun s code info => ⟨fun h => ?_, fun r h => ?_⟩
  · rw [State.raise, h, keepFirst_none, evError]
  · rw [State.raise, h, keepFirst_some, evError, ← h]

/-- Settles O24: a mapped offset is aligned, so the read is accepted in every state. -/
theorem readReturnsTheRegister : Obligations.ReadReturnsTheRegister :=
  fun s _ _ => exec_rd_of_regAt s

/-- Settles O25: each rejection by its access check. -/
theorem readRejections : Obligations.ReadRejections := by
  refine fun s offset size => ⟨fun h => exec_rd_rejected (accessError_of_misaligned s false h), ?_⟩
  rintro rfl haligned hout
  exact exec_rd_rejected (accessError_of_unmapped s false haligned hout)

/-- Settles O26: each rejection by its access check. -/
theorem writeRejections : Obligations.WriteRejections := by
  refine fun s offset size v => ⟨fun h => exec_wr_rejected (accessError_of_misaligned s true h), ?_, ?_, ?_⟩
  · rintro rfl haligned hout
    exact exec_wr_rejected (accessError_of_unmapped s true haligned hout)
  · rintro r rfl hr hro
    exact exec_wr_readOnly s v hr hro
  · rintro r rfl hr hl hbusy
    exact exec_wr_rejected (by simp [accessError_write_of_regAt s hr, hl, hbusy])

/-- Settles O58: each offset is its register's, each value the field's number. -/
theorem registersReadTheirFields : Obligations.RegistersReadTheirFields := by
  refine ⟨fun s => ?_, fun s v h => exec_wr_accepted s v (r := .ctrl) rfl nofun nofun fun _ => h⟩
  intro reads
  have word (r : RegName) : reads r.offset (readReg s r).toNat := exec_rd_offset s r (by simp)
  exact ⟨word .version, word .time, word .bits, word .nonce,
    fun j hj => ⟨exec_rd_offset s (.prev ⟨j, hj⟩) (wordOf_eq_ofNat _ j),
      exec_rd_offset s (.merkle ⟨j, hj⟩) (wordOf_eq_ofNat _ j), exec_rd_offset s (.limit ⟨j, hj⟩) (wordOf_eq_ofNat _ j),
      exec_rd_offset s (.target ⟨j, hj⟩) (wordOf_eq_ofNat _ j), exec_rd_offset s (.digest ⟨j, hj⟩) (wordOf_eq_ofNat _ j),
      exec_rd_offset s (.progDigest ⟨j, hj⟩) (wordOf_eq_ofNat _ j)⟩,
    exec_rd_offset s .hashCntLo (lo32_eq_ofNat _), exec_rd_offset s .hashCntHi (hi32_eq_ofNat _), word .foundCnt,
    word .progInterval, exec_rd_offset s .ctrl s.ctrlWord_eq_ofNat, word .cmd, word .status, word .err,
    exec_rd_offset s .irqStatus (setWidth_eq_ofNat _), exec_rd_offset s .irqEnable (setWidth_eq_ofNat _),
    exec_rd_offset s .progCntLo (lo32_eq_ofNat _), exec_rd_offset s .progCntHi (hi32_eq_ofNat _),
    exec_rd_offset s .claimLo (lo32_eq_ofNat _), exec_rd_offset s .claimHi (hi32_eq_ofNat _), word .range, word .nwork,
    exec_rd_offset s .nlanes (setWidth_eq_ofNat _)⟩

/-- Settles O29: the store to IRQ_STATUS bit by bit, and a bit that is both pending and enabled. -/
theorem eventBitsClearByWritingOnes : Obligations.EventBitsClearByWritingOnes := by
  refine fun s v => ⟨⟨_, exec_wr_accepted s v (r := .irqStatus) rfl nofun nofun nofun, fun b hb => ?_⟩, s.irq_iff⟩
  simp [hb]

/-- Settles O34: the double hash evaluated by the kernel. -/
theorem genesisHeaderDigest : Obligations.GenesisHeaderDigest := by
  unfold Obligations.GenesisHeaderDigest
  rw [headerDigest_eq]
  decide +kernel

/-- Settles O27: the stored register by its implemented bits, the others register by register. -/
theorem writeStoresOneRegister : Obligations.WriteStoresOneRegister := by
  intro s offset r v hr haccess
  have hlocked : r.access = .rwl → s.phase = .idle := fun hl => by
    rcases haccess with hrw | ⟨-, hidle⟩
    · rw [hl] at hrw; cases hrw
    · exact hidle
  have hrw : r.access = .rw ∨ r.access = .rwl := haccess.imp_right And.left
  have hcmd : r ≠ .cmd := by rintro rfl; rcases hrw with h | h <;> cases h
  have hro : r.access ≠ .ro := fun h => by rcases hrw with h' | h' <;> rw [h] at h' <;> cases h'
  exact ⟨_, exec_wr_accepted s v hr hcmd hro hlocked, readReg_writeReg_same s v hrw,
    fun r' => readReg_writeReg_of_ne s v hrw, writeReg_hidden s v r⟩

/-- Settles O38: byte `i` is a byte of header word `i / 4`, which is the register at offset `4 * (i / 4)`. -/
theorem headerWindowIsTheSerialization : Obligations.HeaderWindowIsTheSerialization := by
  intro s i hi
  obtain ⟨r, hr, ho⟩ := exists_headerReg (k := i / 4) (by omega)
  have hword := headerWords_readReg s (r := r) (by omega)
  rw [ho, Nat.mul_div_cancel_left _ (by decide)] at hword
  rw [State.windowByte, hr, serialize_eq_flatMap, getElem?_flatMap_le32 hword]
  rfl

/-- Settles O39: after the twenty writes all twenty words are the new ones, and a header is its words. -/
theorem writingTheWindowLoadsTheHeader : Obligations.WritingTheWindowLoadsTheHeader := by
  intro s h rest hp ha
  obtain ⟨g, hrun, htake⟩ := run_header_writes hp ha 20 (Nat.le_refl 20)
  have hall (x : Header) : (headerWords x).take 20 = headerWords x := List.take_of_length_le (length_headerWords x).le
  have hdone : (scriptWrHdr (serialize h)).drop 20 = [] := List.drop_eq_nil_of_le (by simp [scriptWrHdr])
  obtain rfl : g = h := headerWords_injective (by rw [← hall g, htake, hall h])
  rw [hrun, hdone, List.nil_append]

end Sys2Proof.Proofs
end
